-- ==== Sys2Proof/Word.lean ====
section
/-! DEFINITION. Word.lean: the bit-vector types of the FCC-32 (what the manual adds, wraps, shifts or shows at a port). -/

namespace Sys2Proof

/-- A byte at a station port (R159). -/
abbrev Byte := BitVec 8

/-- A transport position: a value of the 16-bit position counter (R1), compared modulo 65536. -/
abbrev Pos := BitVec 16

/-- The identifier of a piece, 0 to 255 (R19). -/
abbrev Tag := BitVec 8

/-- Sixteen dots: one column of a postmark image, or the lines of a head's column bus (R91, R112). -/
abbrev Dots := BitVec 16

end Sys2Proof
end

