-- ==== Sys2Proof/Syntax.lean ====
section
/-! DEFINITION. Syntax.lean: the commands of the FCC-32, one constructor per row of spec/opcode_table.json, and the
names their operands need. -/

namespace Sys2Proof

/-- The eleven photocells (R4). `b k` is the cell of tray `k + 1`, so `b 0` is B1 and `b 5` is B6. -/
inductive Cell where
  | i | r | t | c
  | b (k : Fin 6)
  | e
  deriving DecidableEq, Repr

/-- The level of a photocell (R3). -/
inductive Level where
  | clear | blocked
  deriving DecidableEq, Repr

/-- The three station ports: Feed, Print and Supervisor (R159). -/
inductive PortId where
  | feed | print | super
  deriving DecidableEq, Repr

/-- The four kinds of access at a port (R159). -/
inductive Access where
  | dataWrite (b : Byte)
  | dataRead
  | commandWrite (b : Byte)
  | statusRead
  deriving DecidableEq, Repr

/-- The two data accesses a block phase can meet (R162). -/
inductive DataAccess where
  | read
  | write (b : Byte)
  deriving DecidableEq, Repr

/-- The data access as an access of the port. -/
def DataAccess.toAccess : DataAccess → Access
  | .read => .dataRead
  | .write b => .dataWrite b

/-- The eight samples an encoder step brings, in channel order (R53). -/
abbrev Samples := Vector Byte 8

/-- The levels of the eleven cell inputs in the order of the READ LINE codes: I, R, T, C, B1 to B6, E (R3, R158). -/
abbrev CellLevels := Vector Level 11

/-- The commands of the command table (R161, 11.8). -/
inductive Cmd where
  | ackNotice | setNoticeMask | abort
  | start | release | drain | standby
  | loadMark | headOnline | headOffline | readHeads
  | setParameter | readParameter | setSortEntry | readSortEntry
  | snapshotTallies | readTallies | clearTallies | readThroughput
  | swapTray | trayReady | readBins | readPiece | readLine
  | purge | resume | lineReset
  deriving DecidableEq, Repr

/-- One constructor per row of spec/opcode_table.json. A station command carries the port it is written at and the
CALL bit of its command byte (R161); its operand bytes come from the port's operand ring (R160). -/
inductive Instr where
  /-- POWER_ON: `cells` are the cell inputs as they stand, `resetAsserted` the reset input (R3, R156, R157). -/
  | powerOn (cells : CellLevels) (resetAsserted : Bool)
  /-- RESET_INPUT: the reset input takes the level `asserted`; a change to asserted is an assertion (R156). -/
  | resetInput (asserted : Bool)
  /-- ENCODER_STEP, with the step's eight samples (R1, R53). -/
  | encoderStep (samples : Samples)
  /-- LEAD_EDGE: cell `x` is found BLOCKED (R3). -/
  | leadEdge (x : Cell)
  /-- TRAIL_EDGE: cell `x` is found CLEAR (R3, R13). -/
  | trailEdge (x : Cell)
  /-- TIME_BASE_EXPIRY: one millisecond (R14, R143). -/
  | timeBaseExpiry
  /-- STALL (R15). -/
  | stall
  /-- INTERVAL_END (R144). -/
  | intervalEnd
  /-- FEED_MISS (R43). -/
  | feedMiss
  /-- GRANT (R39). -/
  | grant
  /-- ABANDONMENT (R68). -/
  | abandonment
  /-- DRAIN_COMPLETE (R49). -/
  | drainComplete
  /-- SWAP_COMPLETE (R130). -/
  | swapComplete
  /-- REFERENCE_WAIT_END (R117). -/
  | referenceWaitEnd
  /-- DATA_WRITE of byte `b` at port `x` (R160). -/
  | dataWrite (x : PortId) (b : Byte)
  /-- DATA_READ at port `x` (R160). -/
  | dataRead (x : PortId)
  /-- BLOCK_DATA_READ: a data access at port `x` meant for a read block phase (R162). -/
  | blockDataRead (x : PortId) (a : DataAccess)
  /-- COLUMN_PAIR_WRITE: a data write at the Print port meant for the LOAD MARK block phase (R118). -/
  | columnPairWrite (b : Byte)
  /-- STATUS_READ at port `x` (R163). -/
  | statusRead (x : PortId)
  /-- XDCLR_PULSE at port `x` (R163). -/
  | xdclrPulse (x : PortId)
  /-- XCCLR_PULSE at port `x` (R163). -/
  | xcclrPulse (x : PortId)
  /-- UNKNOWN_COMMAND: a command write of byte `b`, whose code is in no table (R161). -/
  | unknownCommand (x : PortId) (b : Byte)
  /-- ACK_NOTICE, 02h (R166). -/
  | ackNotice (x : PortId) (call : Bool)
  /-- SET_NOTICE_MASK, 03h (R166). -/
  | setNoticeMask (x : PortId) (call : Bool)
  /-- ABORT, 7Fh (R164). -/
  | abort (x : PortId) (call : Bool)
  /-- START, 10h (R48). -/
  | start (x : PortId) (call : Bool)
  /-- RELEASE, 11h (R37). -/
  | release (x : PortId) (call : Bool)
  /-- DRAIN, 12h (R49). -/
  | drain (x : PortId) (call : Bool)
  /-- STANDBY, 13h (R50). -/
  | standby (x : PortId) (call : Bool)
  /-- LOAD_MARK, 20h (R115). -/
  | loadMark (x : PortId) (call : Bool)
  /-- HEAD_ONLINE, 21h (R104). -/
  | headOnline (x : PortId) (call : Bool)
  /-- HEAD_OFFLINE, 22h (R105). -/
  | headOffline (x : PortId) (call : Bool)
  /-- READ_HEADS, 23h (R110). -/
  | readHeads (x : PortId) (call : Bool)
  /-- SET_PARAMETER, 30h (R167). -/
  | setParameter (x : PortId) (call : Bool)
  /-- READ_PARAMETER, 31h (R169). -/
  | readParameter (x : PortId) (call : Bool)
  /-- SET_SORT_ENTRY, 32h (R123). -/
  | setSortEntry (x : PortId) (call : Bool)
  /-- READ_SORT_ENTRY, 33h (R123). -/
  | readSortEntry (x : PortId) (call : Bool)
  /-- SNAPSHOT_TALLIES, 34h (R139). -/
  | snapshotTallies (x : PortId) (call : Bool)
  /-- READ_TALLIES, 35h (R140). -/
  | readTallies (x : PortId) (call : Bool)
  /-- CLEAR_TALLIES, 36h (R142). -/
  | clearTallies (x : PortId) (call : Bool)
  /-- READ_THROUGHPUT, 37h (R145). -/
  | readThroughput (x : PortId) (call : Bool)
  /-- SWAP_TRAY, 38h (R130). -/
  | swapTray (x : PortId) (call : Bool)
  /-- TRAY_READY, 39h (R132). -/
  | trayReady (x : PortId) (call : Bool)
  /-- READ_BINS, 3Ah (R134). -/
  | readBins (x : PortId) (call : Bool)
  /-- READ_PIECE, 3Bh (R31). -/
  | readPiece (x : PortId) (call : Bool)
  /-- READ_LINE, 3Ch (R158). -/
  | readLine (x : PortId) (call : Bool)
  /-- PURGE, 3Dh (R152). -/
  | purge (x : PortId) (call : Bool)
  /-- RESUME, 3Eh (R153). -/
  | resume (x : PortId) (call : Bool)
  /-- LINE_RESET, 3Fh (R155). -/
  | lineReset (x : PortId) (call : Bool)
  /-- ACCESS_HELD: an access at port `x` that the port cannot yet take (R161). -/
  | accessHeld (x : PortId) (a : Access)
  deriving DecidableEq, Repr

end Sys2Proof
end

