-- ==== Sys2Proof/Decode.lean ====
section
/-! DEFINITION. Decode.lean: the command a table word spells. -/

namespace Sys2Proof

/-- No row of spec/opcode_table.json gives bits, so no word spells a command (notes/assumptions/14.md). A station
command's byte is decoded where the manual decodes it: at its port (`Machine.cmdOfByte`, R161). -/
def decodeTableWord (_nbits _w : Nat) : Option Instr := none

end Sys2Proof
end

