-- ==== Sys2Proof/Config.lean ====
section
/-! DEFINITION. Config.lean: the one choice the manual leaves open, as a value nothing can evaluate. -/

namespace Sys2Proof

/-- FREE VALUE (notes/assumptions/8.md). One event can make the held accesses of several ports takeable at once (a line
reset, R154). The manual gives each port's own order (R161) and no order between ports. `heldOrder n` is the
`n`-th such choice; it has no body, so no statement can rest on the port it picks. -/
opaque Config.heldOrder : Nat → Nat

end Sys2Proof
end

