-- ==== Sys2Proof/Machine/Types.lean ====
section
/-! DEFINITION. Machine/Types.lean: the types of the state's fields, block by block, named as the manual names them. -/

namespace Sys2Proof.Machine

/-! ### Transport and track -/

/-- The line state (R147). -/
inductive LineState where
  | idle | running | draining | jammed | standby
  deriving DecidableEq, Repr

/-- The record stages (2.4). -/
inductive Stage where
  | inducting | toRead | reading | planned | held
  deriving DecidableEq, Repr

/-- A bin: the end tray (bin 0) or a gated tray; `tray k` is bin `k + 1` (Conventions, R124). -/
inductive Bin where
  | endTray
  | tray (k : Fin 6)
  deriving DecidableEq, Repr

/-- The nine disposition classes, in the manual's order. -/
inductive Class where
  | stampedUp | stampedInv | meteredUp | meteredInv | unfaced | ambiguous | unusual | short | overlength
  deriving DecidableEq, Repr

/-- The kind of light a channel responds to (4.1). -/
inductive Kind where
  | tag | meter
  deriving DecidableEq, Repr

/-- A side of the letter (4.1). -/
inductive Side where
  | right | left
  deriving DecidableEq, Repr

/-- A band of the letter's height (4.1). -/
inductive Band where
  | high | low
  deriving DecidableEq, Repr

/-- A best candidate or a finding: start offset, last offset and score (R54, 2.3). -/
structure Candidate where
  start : Nat
  last  : Nat
  score : Nat
  deriving DecidableEq, Repr

/-- UP or INV (R79). -/
inductive Facing where
  | up | inv
  deriving DecidableEq, Repr

/-- The orientation field of a faced record (2.3, R79). -/
structure Orientation where
  facing    : Facing
  needsTurn : Bool
  deriving DecidableEq, Repr

/-- The setting of the flip gate (5.4). -/
inductive Setting where
  | straight | turn
  deriving DecidableEq, Repr

/-- A span of positions; a `toPos` of `none` is open (R2, R25). -/
structure Window where
  fromPos : Pos
  toPos   : Option Pos
  deriving DecidableEq, Repr

/-- The gate setting of a record with its flip gate window (2.3). -/
structure GatePlan where
  setting : Setting
  win     : Window
  deriving DecidableEq, Repr

/-- The two print heads (6.1). -/
inductive HeadId where
  | high | low
  deriving DecidableEq, Repr

/-- Why a wanted mark ended UNCANCELLED (R24). -/
inductive Reason where
  | conflict | offline | noMark | jam
  deriving DecidableEq, Repr

/-- The mark field (R24). -/
inductive Mark where
  | none
  | scheduled (h : HeadId)
  | done
  | incomplete
  | uncancelled (r : Reason)
  deriving DecidableEq, Repr

/-- A record of the piece track (2.3). Absent fields are `none`; the findings are in channel order. -/
structure Record where
  tag             : Tag
  stage           : Stage
  next            : Option Cell
  anchor          : Pos
  inductionLength : Option Nat := Option.none
  lp              : Option Nat := Option.none
  findings        : Option (Vector (Option Candidate) 8) := Option.none
  cls             : Option Class := Option.none
  orient          : Option Orientation := Option.none
  gate            : Option GatePlan := Option.none
  conflict        : Option Bool := Option.none
  mark            : Option Mark := Option.none
  bin             : Option Bin := Option.none
  deriving DecidableEq, Repr

/-- The stall timer (R14). -/
structure StallTimer where
  count   : Nat
  dormant : Bool
  deriving DecidableEq, Repr

/-- The release state with its grant position (R36). -/
inductive ReleaseState where
  | none
  | waiting
  | granted (g : Pos)
  deriving DecidableEq, Repr

/-! ### Stamp reader -/

/-- The detector parameters of one kind (R59). -/
structure Detector where
  t    : Nat
  lmin : Nat
  lmax : Nat
  smin : Nat
  g    : Nat
  deriving DecidableEq, Repr

/-- The latched set of a read (R60). -/
structure Latched where
  tag      : Detector
  meter    : Detector
  maxPiece : Nat
  minPiece : Nat
  deriving DecidableEq, Repr

/-- An OPEN run (R54). -/
structure Run where
  start : Nat
  last  : Nat
  score : Nat
  gap   : Nat
  deriving DecidableEq, Repr

/-- The working state of one channel while SAMPLING; `run` is `none` for NO RUN (R54). -/
structure Channel where
  run     : Option Run
  best    : Option Candidate
  flooded : Bool
  deriving DecidableEq, Repr

/-- What the reader holds while SAMPLING or OVERRUN (R54). -/
structure Reading where
  tag     : Tag
  latched : Latched
  count   : Nat
  deriving DecidableEq, Repr

/-- The read state (R54). -/
inductive ReadState where
  | idle
  | sampling (r : Reading) (ch : Vector Channel 8)
  | overrun (r : Reading)
  deriving DecidableEq, Repr

/-- The length verdict (R70). -/
inductive Verdict where
  | short | inRange | overlength
  deriving DecidableEq, Repr

/-! ### Facing planner -/

/-- The end of the letter a candidate lies at (R74). -/
inductive End where
  | leading | trailing
  deriving DecidableEq, Repr

/-- The five orientation codes (R75). -/
inductive OrientCode where
  | faced (o : Orientation)
  | unusual
  deriving DecidableEq, Repr

/-- The last reservation of the flip gate (R80). -/
structure FlipReservation where
  holder  : Tag
  setting : Setting
  win     : Window
  deriving DecidableEq, Repr

/-! ### Cancel unit and mark store -/

/-- The head states (R91). -/
inductive HeadState where
  | offline | free | marking | recovering
  deriving DecidableEq, Repr

/-- A head reservation (R91). -/
structure Reservation where
  holder   : Tag
  linked   : Bool
  cut      : Bool
  slot     : Fin 4
  bank     : Fin 2
  cols     : Nat
  leadClip : Nat
  first    : Pos
  last     : Pos
  free     : Pos
  deriving DecidableEq, Repr

/-- A print head: state, Active and Pending slots, column latch (bit n drives bus line n) and whether its strobe was
pulsed at the last encoder step (R91, R93). -/
structure Head where
  state   : HeadState
  active  : Option Reservation
  pending : Option Reservation
  latch   : Dots
  strobe  : Bool
  deriving DecidableEq, Repr

/-- A bank: 128 column places and a column count (R112). Bit n of a column is dot n. -/
structure Bank where
  columns : Vector Dots 128
  count   : Nat
  deriving DecidableEq, Repr

/-- A slot of the mark store (R112). -/
structure Slot where
  banks : Vector Bank 2
  live  : Fin 2
  ready : Bool
  deriving DecidableEq, Repr

/-! ### Stacker -/

/-- A sort plan entry (R122). -/
structure SortEntry where
  primary   : Bin
  alternate : Bin
  cancel    : Bool
  slot      : Fin 4
  deriving DecidableEq, Repr

/-- The bin states (R124). -/
inductive BinState where
  | available | full | swapping | withheld
  deriving DecidableEq, Repr

/-- A bin table entry (R124). -/
structure BinEntry where
  state    : BinState
  count    : Nat
  bound    : Nat
  capacity : Nat
  deriving DecidableEq, Repr

/-- A linked window of a tray gate (R126). -/
structure GateWindow where
  holder : Tag
  win    : Window
  deriving DecidableEq, Repr

/-- A tray gate: output, linked windows in binding order, optional hold (R126). -/
structure TrayGate where
  isOpen  : Bool
  windows : List GateWindow
  hold    : Option Pos
  deriving DecidableEq, Repr

/-! ### Tally unit -/

/-- The 32 counters (R136). -/
inductive Tally where
  | inducted | exited | purged | strayEdges | feedMisses
  | cls (c : Class)
  | flipped | turnConflicts | cancelled | uncancelledConflict | uncancelledOffline | incompleteMarks
  | floodedPieces | jams | reAnchors
  | arrivals (b : Bin)
  | stalls | lineResets
  deriving DecidableEq, Repr

/-- The throughput state (R143). -/
structure Throughput where
  ring    : Vector Nat 16
  newest  : Fin 16
  elapsed : Nat
  count   : Nat
  deriving DecidableEq, Repr

/-! ### Line controller, parameters and ports -/

/-- The reset cause (R158). -/
inductive ResetCause where
  | powerOn | lineInput | lineCommand
  deriving DecidableEq, Repr

/-- The jam cause (R148, R158). -/
inductive JamCause where
  | none | missing | stray
  deriving DecidableEq, Repr

/-- The geometry group of the parameter store (11.9). `pG k` is P_G(k+1). -/
structure Geometry where
  pR           : Nat
  pF           : Nat
  flipSetup    : Nat
  flipHold     : Nat
  pT           : Nat
  pC           : Nat
  pP           : Nat
  pG           : Vector Nat 6
  gateSetup    : Nat
  gateHold     : Nat
  pE           : Nat
  tol          : Nat
  minGap       : Nat
  feedLead     : Nat
  arrivalLimit : Nat
  maxPiece     : Nat
  minPiece     : Nat
  deriving DecidableEq, Repr

/-- The parameter store but for the bins group, whose values are the capacities of the bin table (11.9, R133). -/
structure Params where
  geo        : Geometry
  detTag     : Detector
  detMeter   : Detector
  mPre       : Nat
  recovery   : Nat
  stallLimit : Nat
  interval   : Nat
  deriving DecidableEq, Repr

/-- The identifiers of the geometry group (11.9). -/
inductive GeoId where
  | pR | pF | flipSetup | flipHold | pT | pC | pP
  | pG (k : Fin 6)
  | gateSetup | gateHold | pE | tol | minGap | feedLead | arrivalLimit | maxPiece | minPiece
  deriving DecidableEq, Repr

/-- The identifiers of the detector group, for either kind (11.9). -/
inductive DetId where
  | t | lmin | lmax | smin | g
  deriving DecidableEq, Repr

/-- The parameter identifiers (11.9). -/
inductive ParamId where
  | geo (g : GeoId)
  | det (k : Kind) (d : DetId)
  | mPre | recovery | stallLimit | interval
  | capacity (b : Bin)
  deriving DecidableEq, Repr

/-- The result codes a completion leaves (11.9). IN PROGRESS is not one: it is read while BUSY (R163). -/
inductive Code where
  | done | clamped | wrongState | badOperand | notPermitted | badConfig | aborted | jammed | unknownCommand
  | notFound | targetBusy
  deriving DecidableEq, Repr

/-- The notices (11.9). -/
inductive Notice where
  | jam | feedMiss | stall | trained | trayFullEnd | headConflict | markIncomplete | noMark | trayFull
  | tallySaturated
  deriving DecidableEq, Repr

/-- Where a LOAD MARK in flight stands: its reference wait, or its block phase with the remaining count, the next
column index and the held first byte of a pair (R117, R118). -/
inductive LoadPhase where
  | wait
  | block (remaining : Nat) (next : Nat) (first : Option Byte)
  deriving DecidableEq, Repr

/-- A LOAD MARK in flight (R115, R116). -/
structure Load where
  slot    : Fin 4
  bank    : Fin 2
  count   : Nat
  clamped : Bool
  phase   : LoadPhase
  deriving DecidableEq, Repr

/-- The commands that stay in flight, each with what it holds (11.8, R141). -/
inductive Flight where
  | release
  | drain
  | loadMark (l : Load)
  | swapTray (b : Bin)
  | readTallies (remaining next bytePos : Nat) (clamped : Bool)
  | readBytes (bytes : List Byte)
  deriving DecidableEq, Repr

/-- A command in flight with its CALL bit (R161, R163). -/
structure InFlight where
  kind : Flight
  call : Bool
  deriving DecidableEq, Repr

/-- A station port: operand ring (top first), command in flight, code of the last completion, xDONE, xCALL, notice
flags and mask, the access held with xWAIT asserted, and the byte the port last drove on xD7 to xD0 (R159 to R165).
BUSY, BLOCK, NOTICE, xATN and xWAIT are read off these fields. -/
structure Port where
  ring     : List Byte
  inFlight : Option InFlight
  code     : Code
  xdone    : Bool
  xcall    : Bool
  flags    : Byte
  mask     : Byte
  held     : Option Access
  out      : Byte
  deriving DecidableEq, Repr

end Sys2Proof.Machine
end

