-- ==== Sys2Proof/Machine/Codes.lean ====
section
/-! DEFINITION. Machine/Codes.lean: the manual's numberings: command codes and ports (11.8), layout tables (11.9),
READ LINE codes (R158), the order of channels, classes, bins and counters. -/

namespace Sys2Proof.Machine

/-! ### Commands (11.8) -/

/-- The command code (11.8). -/
def cmdCode : Cmd → Nat
  | .ackNotice => 0x02 | .setNoticeMask => 0x03 | .abort => 0x7F
  | .start => 0x10 | .release => 0x11 | .drain => 0x12 | .standby => 0x13
  | .loadMark => 0x20 | .headOnline => 0x21 | .headOffline => 0x22 | .readHeads => 0x23
  | .setParameter => 0x30 | .readParameter => 0x31 | .setSortEntry => 0x32 | .readSortEntry => 0x33
  | .snapshotTallies => 0x34 | .readTallies => 0x35 | .clearTallies => 0x36 | .readThroughput => 0x37
  | .swapTray => 0x38 | .trayReady => 0x39 | .readBins => 0x3A | .readPiece => 0x3B | .readLine => 0x3C
  | .purge => 0x3D | .resume => 0x3E | .lineReset => 0x3F

/-- The command of a code, if the command table has one (R161). -/
def cmdOfCode : Nat → Option Cmd
  | 0x02 => some .ackNotice | 0x03 => some .setNoticeMask | 0x7F => some .abort
  | 0x10 => some .start | 0x11 => some .release | 0x12 => some .drain | 0x13 => some .standby
  | 0x20 => some .loadMark | 0x21 => some .headOnline | 0x22 => some .headOffline | 0x23 => some .readHeads
  | 0x30 => some .setParameter | 0x31 => some .readParameter | 0x32 => some .setSortEntry
  | 0x33 => some .readSortEntry | 0x34 => some .snapshotTallies | 0x35 => some .readTallies
  | 0x36 => some .clearTallies | 0x37 => some .readThroughput | 0x38 => some .swapTray
  | 0x39 => some .trayReady | 0x3A => some .readBins | 0x3B => some .readPiece | 0x3C => some .readLine
  | 0x3D => some .purge | 0x3E => some .resume | 0x3F => some .lineReset
  | _ => none

/-- The command a command byte names: bits 6 to 0 (R161). -/
def cmdOfByte (b : Byte) : Option Cmd := cmdOfCode (b.toNat % 128)

/-- Bit 7 of a command byte, the CALL bit (R161). -/
def callOfByte (b : Byte) : Bool := b.msb

/-- The byte that writes a command: CALL in bit 7, the code below it (R161). -/
def cmdByte (c : Cmd) (call : Bool) : Byte := BitVec.ofNat 8 ((if call then 128 else 0) + cmdCode c)

/-- The ports a command is listed for (11.8). -/
def allowedAt : Cmd → PortId → Bool
  | .ackNotice, _ | .setNoticeMask, _ | .abort, _ => true
  | .start, x | .release, x | .drain, x | .standby, x => x == .feed
  | .loadMark, x | .headOnline, x | .headOffline, x | .readHeads, x => x == .print
  | .setParameter, x => x != .feed
  | _, x => x == .super

/-- The result code in the status byte (11.9). -/
def codeNum : Code → Nat
  | .done => 0 | .clamped => 1 | .wrongState => 2 | .badOperand => 3 | .notPermitted => 4 | .badConfig => 5
  | .aborted => 6 | .jammed => 7 | .unknownCommand => 8 | .notFound => 9 | .targetBusy => 10

/-- The bit of a notice at a port, where the port has it (11.9). -/
def noticeBit : PortId → Notice → Option Nat
  | _, .jam => some 0
  | .feed, .feedMiss => some 1 | .feed, .stall => some 2 | .feed, .trained => some 3 | .feed, .trayFullEnd => some 4
  | .print, .headConflict => some 1 | .print, .markIncomplete => some 2 | .print, .noMark => some 3
  | .super, .trayFull => some 1 | .super, .tallySaturated => some 2 | .super, .stall => some 3
  | _, _ => none

/-! ### Cells, bins, classes, channels, counters -/

/-- The READ LINE code of a cell, which is also its place among the levels (R158). -/
def cellIx : Cell → Fin 11
  | .i => 0 | .r => 1 | .t => 2 | .c => 3
  | .b k => ⟨k.val + 4, by omega⟩
  | .e => 10

/-- The number of a bin (Conventions). -/
def binIx : Bin → Fin 7
  | .endTray => 0
  | .tray k => ⟨k.val + 1, by omega⟩

/-- The bin a number names, 0 to 6 (R123). -/
def binOfNat (n : Nat) : Option Bin :=
  if n = 0 then some .endTray else if h : n < 7 then some (.tray ⟨n - 1, by omega⟩) else none

/-- The bin cell of a bin: Bk for bin k, E for bin 0 (R5). -/
def binCell : Bin → Cell
  | .endTray => .e
  | .tray k => .b k

/-- The bin whose cell this is, for a bin cell (R5). -/
def cellBin : Cell → Option Bin
  | .b k => some (.tray k)
  | .e => some .endTray
  | _ => none

/-- The place of a class in the class list (11.9). -/
def classIx : Class → Fin 9
  | .stampedUp => 0 | .stampedInv => 1 | .meteredUp => 2 | .meteredInv => 3 | .unfaced => 4
  | .ambiguous => 5 | .unusual => 6 | .short => 7 | .overlength => 8

/-- The class a number names, 0 to 8 (R123). -/
def classOfNat : Nat → Option Class
  | 0 => some .stampedUp | 1 => some .stampedInv | 2 => some .meteredUp | 3 => some .meteredInv
  | 4 => some .unfaced | 5 => some .ambiguous | 6 => some .unusual | 7 => some .short | 8 => some .overlength
  | _ => none

/-- A faced class: one of the first four (Terms). -/
def isFaced : Class → Bool
  | .stampedUp | .stampedInv | .meteredUp | .meteredInv => true
  | _ => false

/-- The channel of a kind, side and band in channel order: R-HIGH, R-LOW, L-HIGH, L-LOW, TAG before METER (4.1). -/
def channelIx (k : Kind) (s : Side) (b : Band) : Fin 8 :=
  match k, s, b with
  | .tag, .right, .high => 0 | .tag, .right, .low => 1 | .tag, .left, .high => 2 | .tag, .left, .low => 3
  | .meter, .right, .high => 4 | .meter, .right, .low => 5 | .meter, .left, .high => 6 | .meter, .left, .low => 7

/-- The kind of a channel (4.1). -/
def channelKind (i : Fin 8) : Kind := if i.val < 4 then .tag else .meter

/-- The index of a counter (R136). -/
def tallyIx : Tally → Fin 32
  | .inducted => 0 | .exited => 1 | .purged => 2 | .strayEdges => 3 | .feedMisses => 4
  | .cls c => ⟨(classIx c).val + 5, by omega⟩
  | .flipped => 14 | .turnConflicts => 15 | .cancelled => 16 | .uncancelledConflict => 17
  | .uncancelledOffline => 18 | .incompleteMarks => 19 | .floodedPieces => 20 | .jams => 21 | .reAnchors => 22
  | .arrivals b => ⟨(binIx b).val + 23, by omega⟩
  | .stalls => 30 | .lineResets => 31

/-! ### Codes of the reads (11.9, R158) -/

def lineCode : LineState → Nat
  | .idle => 0 | .running => 1 | .draining => 2 | .jammed => 3 | .standby => 4

def resetCauseCode : ResetCause → Nat
  | .powerOn => 0 | .lineInput => 1 | .lineCommand => 2

def jamCauseCode : JamCause → Nat
  | .none => 0 | .missing => 1 | .stray => 2

def releaseCode : ReleaseState → Nat
  | .none => 0 | .waiting => 1 | .granted _ => 2

def stageCode : Stage → Nat
  | .inducting => 0 | .toRead => 1 | .reading => 2 | .planned => 3 | .held => 4

def reasonCode : Reason → Nat
  | .conflict => 5 | .offline => 6 | .noMark => 7 | .jam => 8

/-- The mark outcome item of the piece summary; 0 is ABSENT. -/
def markCode : Option Mark → Nat
  | none => 0
  | some .none => 1 | some (.scheduled _) => 2 | some .done => 3 | some .incomplete => 4
  | some (.uncancelled r) => reasonCode r

def binStateCode : BinState → Nat
  | .available => 0 | .full => 1 | .swapping => 2 | .withheld => 3

def headStateCode : HeadState → Nat
  | .offline => 0 | .free => 1 | .marking => 2 | .recovering => 3

/-- The head operand: HIGH 0, LOW 1 (11.9). -/
def headOfNat : Nat → Option HeadId
  | 0 => some .high | 1 => some .low | _ => none

/-- The cancel-and-slot byte: bit 7 the cancel flag, bits 1 and 0 the slot, the rest read back as 0 (11.9). -/
def cancelSlotByte (cancel : Bool) (slot : Fin 4) : Byte :=
  BitVec.ofNat 8 ((if cancel then 128 else 0) + slot.val)

/-- The slot of a cancel-and-slot byte (11.9). -/
def slotOfByte (b : Byte) : Fin 4 := ⟨b.toNat % 4, Nat.mod_lt _ (by decide)⟩

/-! ### Parameter identifiers (11.9) -/

/-- The geometry identifiers 0 to 21. -/
def geoOfNat : Nat → Option GeoId
  | 0 => some .pR | 1 => some .pF | 2 => some .flipSetup | 3 => some .flipHold
  | 4 => some .pT | 5 => some .pC | 6 => some .pP
  | 7 => some (.pG 0) | 8 => some (.pG 1) | 9 => some (.pG 2) | 10 => some (.pG 3) | 11 => some (.pG 4)
  | 12 => some (.pG 5)
  | 13 => some .gateSetup | 14 => some .gateHold | 15 => some .pE | 16 => some .tol | 17 => some .minGap
  | 18 => some .feedLead | 19 => some .arrivalLimit | 20 => some .maxPiece | 21 => some .minPiece
  | _ => none

/-- The five detector identifiers of a kind, counted from its first. -/
def detOfNat : Nat → Option DetId
  | 0 => some .t | 1 => some .lmin | 2 => some .lmax | 3 => some .smin | 4 => some .g
  | _ => none

/-- The parameter an identifier names (11.9). -/
def paramOfNat (n : Nat) : Option ParamId :=
  if n ≤ 21 then (geoOfNat n).map .geo
  else if 32 ≤ n ∧ n ≤ 36 then (detOfNat (n - 32)).map (.det .tag)
  else if 40 ≤ n ∧ n ≤ 44 then (detOfNat (n - 40)).map (.det .meter)
  else if n = 48 then some .mPre
  else if n = 49 then some .recovery
  else if n = 56 then some .stallLimit
  else if n = 57 then some .interval
  else if 64 ≤ n ∧ n ≤ 70 then (binOfNat (n - 64)).map .capacity
  else none

end Sys2Proof.Machine
end

