-- ==== Sys2Proof/Machine/Defaults.lean ====
section
/-! DEFINITION. Machine/Defaults.lean: the power-on values of the blocks (R17, R30, R52, R72, R90, R108, R121, R135, R146,
R157, 11.9). -/

namespace Sys2Proof.Machine

/-- The geometry defaults (11.9). -/
def defaultGeometry : Geometry where
  pR := 400
  pF := 1800
  flipSetup := 60
  flipHold := 40
  pT := 2400
  pC := 2800
  pP := 2880
  pG := #v[3400, 3700, 4000, 4300, 4600, 4900]
  gateSetup := 50
  gateHold := 30
  pE := 5400
  tol := 20
  minGap := 100
  feedLead := 40
  arrivalLimit := 400
  maxPiece := 600
  minPiece := 200

/-- The parameter defaults (R59, R109, 11.9). -/
def defaultParams : Params where
  geo := defaultGeometry
  detTag := { t := 24, lmin := 30, lmax := 110, smin := 1500, g := 3 }
  detMeter := { t := 30, lmin := 40, lmax := 200, smin := 2500, g := 5 }
  mPre := 10
  recovery := 40
  stallLimit := 2000
  interval := 60

/-- A channel at the start of a read: NO RUN, no best candidate, not flooded (R61). -/
def freshChannel : Channel := { run := none, best := none, flooded := false }

/-- A head at power-on: OFFLINE, slots empty, all dots off (R108). -/
def offlineHead : Head := { state := .offline, active := none, pending := none, latch := 0, strobe := false }

/-- An empty bank: no columns, all dots 0 (R121). -/
def emptyBank : Bank := { columns := Vector.replicate 128 0, count := 0 }

/-- A slot at power-on (R121). -/
def emptySlot : Slot := { banks := Vector.replicate 2 emptyBank, live := 0, ready := false }

/-- The sort plan defaults, in class order (R122). -/
def defaultSort : Vector SortEntry 9 :=
  #v[{ primary := .tray 0, alternate := .tray 1, cancel := true, slot := 0 },
     { primary := .tray 2, alternate := .tray 3, cancel := true, slot := 0 },
     { primary := .tray 4, alternate := .endTray, cancel := false, slot := 0 },
     { primary := .tray 5, alternate := .endTray, cancel := false, slot := 0 },
     { primary := .endTray, alternate := .endTray, cancel := false, slot := 0 },
     { primary := .endTray, alternate := .endTray, cancel := false, slot := 0 },
     { primary := .endTray, alternate := .endTray, cancel := false, slot := 0 },
     { primary := .endTray, alternate := .endTray, cancel := false, slot := 0 },
     { primary := .endTray, alternate := .endTray, cancel := false, slot := 0 }]

/-- A bin at power-on, of the given capacity (R124, R135). -/
def freshBin (capacity : Nat) : BinEntry := { state := .available, count := 0, bound := 0, capacity := capacity }

/-- The bin table at power-on: 1000 for bin 0, 500 for the others (R124). -/
def defaultBins : Vector BinEntry 7 :=
  #v[freshBin 1000, freshBin 500, freshBin 500, freshBin 500, freshBin 500, freshBin 500, freshBin 500]

/-- A tray gate with no window and no hold: CLOSED (R126). -/
def closedGate : TrayGate := { isOpen := false, windows := [], hold := none }

/-- The throughput state at power-on and after CLEAR TALLIES (R142, R146). The newest place's initial place is not
stated: place 15 is a DESIGN CHOICE (notes/assumptions/13.md) that no port can show. -/
def freshThroughput : Throughput := { ring := Vector.replicate 16 0, newest := 15, elapsed := 0, count := 0 }

/-- A port at power-on (R157): 24 bytes of 0, code DONE, lines and flags cleared, mask all ones. The data byte's 0 is a
DESIGN CHOICE (notes/assumptions/11.md). -/
def freshPort : Port :=
  { ring := List.replicate 24 0, inFlight := none, code := .done, xdone := false, xcall := false,
    flags := 0, mask := 0xFF, held := none, out := 0 }

end Sys2Proof.Machine
end

