-- ==== Sys2Proof/Machine/State.lean ====
section
/-! DEFINITION. Machine/State.lean: the state of the FCC-32, every piece the manual gives it, with the queue of waiting
commands; its power-on value; the reasons a step can stop. -/

namespace Sys2Proof.Machine

/-- The state of the FCC-32, block by block. -/
structure State where
  /-- The position counter (R1). -/
  pos         : Pos
  /-- The last level of each cell (R3). -/
  cells       : CellLevels
  /-- The I occupant (R13). -/
  iOcc        : Option Tag
  /-- The R occupant (R13). -/
  rOcc        : Option Tag
  /-- The stall timer (R14). -/
  stallTimer  : StallTimer
  /-- The piece track, oldest first (R18). -/
  track       : List Record
  /-- The next-tag counter (R19). -/
  nextTag     : Tag
  /-- The release state and grant position (R36). -/
  release     : ReleaseState
  /-- The gap counter (R41). -/
  gap         : Nat
  /-- The eight channel training counts (R46). -/
  training    : Vector Nat 8
  /-- The baselines B16 (R54, R55). -/
  baselines   : Vector Nat 8
  /-- The read state with its working state (R54). -/
  read        : ReadState
  /-- The parameter store but for the capacities (11.7). -/
  params      : Params
  /-- The flip gate output (R80). -/
  gateOut     : Setting
  /-- The flip gate's last reservation (R80). -/
  lastRes     : Option FlipReservation
  /-- The HIGH head (R91). -/
  headHigh    : Head
  /-- The LOW head (R91). -/
  headLow     : Head
  /-- The mark store (R112). -/
  store       : Vector Slot 4
  /-- The sort plan (R122). -/
  sort        : Vector SortEntry 9
  /-- The bin table (R124). -/
  bins        : Vector BinEntry 7
  /-- The six tray gates (R126). -/
  gates       : Vector TrayGate 6
  /-- The live counters (R136). -/
  live        : Vector Nat 32
  /-- The snapshot counters (R139). -/
  snapshot    : Vector Nat 32
  /-- The throughput state (R143). -/
  throughput  : Throughput
  /-- The line state (R147). -/
  line        : LineState
  /-- The jam cause (R148). -/
  jamCause    : JamCause
  /-- The jam cell, absent before the first jam (R148). -/
  jamCell     : Option Cell
  /-- The reset cause (R154, R157). -/
  resetCause  : ResetCause
  /-- The level of the reset input as last taken: true while asserted (R156). -/
  resetLevel  : Bool
  /-- The Feed port (R159). -/
  portF       : Port
  /-- The Print port (R159). -/
  portP       : Port
  /-- The Supervisor port (R159). -/
  portS       : Port
  /-- The model's own: how many free choices of `Config.heldOrder` have been used (notes/assumptions/8.md). -/
  freeCount   : Nat
  /-- The model's own: the commands that are waiting, first in, first out (notes/assumptions/1.md). -/
  pending     : List Instr
  deriving DecidableEq, Repr

/-- No step of the FCC-32 stops with a fault: the manual gives every event an effect in every state (NOTES.md, Stops). -/
inductive Fault where
  deriving DecidableEq, Repr

/-- Why a step has no meaning. -/
inductive Refusal where
  /-- Raised by an arm of `exec` that is not modelled yet. Safe: no statement holds of its result. No arm raises it. -/
  | notModelled (mnemonic : String)
  deriving DecidableEq, Repr

/-- The machine right after power-on (R157) with every cell input CLEAR and the reset input released (DESIGN CHOICE,
notes/assumptions/5.md: the manual takes them from the inputs as they stand). -/
def State.reset : State where
  pos := 0
  cells := Vector.replicate 11 .clear
  iOcc := none
  rOcc := none
  stallTimer := { count := 0, dormant := false }
  track := []
  nextTag := 0
  release := .none
  gap := 0
  training := Vector.replicate 8 0
  baselines := Vector.replicate 8 0
  read := .idle
  params := defaultParams
  gateOut := .straight
  lastRes := none
  headHigh := offlineHead
  headLow := offlineHead
  store := Vector.replicate 4 emptySlot
  sort := defaultSort
  bins := defaultBins
  gates := Vector.replicate 6 closedGate
  live := Vector.replicate 32 0
  snapshot := Vector.replicate 32 0
  throughput := freshThroughput
  line := .idle
  jamCause := .none
  jamCell := none
  resetCause := .powerOn
  resetLevel := false
  portF := freshPort
  portP := freshPort
  portS := freshPort
  freeCount := 0
  pending := []

/-- What a meaning answers. -/
abbrev Result := Host.Outcome State Fault Refusal

end Sys2Proof.Machine
end

