-- ==== Sys2Proof/Machine/Ops.lean ====
section
/-! DEFINITION. Machine/Ops.lean: the operations every block shares: positions and windows (R1, R2, Conventions),
reading and writing the state's tables, counters (R136), notices (R165), completion of a command (R163), records of
the track (R18). -/

namespace Sys2Proof.Machine

/-! ### Positions and windows -/

/-- The distance from position `a` to position `b` (Conventions). -/
def distance (a b : Pos) : Nat := (b - a).toNat

/-- `b` is after `a` (Conventions). -/
def isAfter (b a : Pos) : Bool := 1 ≤ distance a b && distance a b ≤ 32767

/-- `b` is at or after `a` (Conventions). -/
def atOrAfter (b a : Pos) : Bool := distance a b ≤ 32767

/-- `b` is before `a` (Conventions). -/
def isBefore (b a : Pos) : Bool := isAfter a b

/-- A position `n` ticks past `p`, modulo 65536 (Conventions). -/
def posPlus (p : Pos) (n : Nat) : Pos := p + BitVec.ofNat 16 n

/-- A position `n` ticks before `p`, modulo 65536 (Conventions). -/
def posMinus (p : Pos) (n : Nat) : Pos := p - BitVec.ofNat 16 n

/-- The window has begun at `p` (R2). -/
def Window.begun (w : Window) (p : Pos) : Bool := atOrAfter p w.fromPos

/-- The window has been passed at `p`; an open window never is (R2, R25). -/
def Window.passed (w : Window) (p : Pos) : Bool :=
  match w.toPos with
  | none => false
  | some t => isAfter p t

/-- `p` lies within the window; an open one contains every position at or after its from (R2, R84). -/
def Window.contains (w : Window) (p : Pos) : Bool :=
  atOrAfter p w.fromPos &&
    match w.toPos with
    | none => true
    | some t => atOrAfter t p

/-- The expected window of a cell `cellPos` ticks from I, for an anchor and a tolerance (R5). -/
def expectedWindow (anchor : Pos) (cellPos tol : Nat) : Window :=
  { fromPos := posMinus (posPlus anchor cellPos) tol, toPos := some (posPlus (posPlus anchor cellPos) tol) }

/-- The place of a cell on the transport (R4). -/
def cellPosition (g : Geometry) : Cell → Nat
  | .i => 0
  | .r => g.pR
  | .t => g.pT
  | .c => g.pC
  | .b k => g.pG[k] + 120
  | .e => g.pE

/-! ### Tables -/

/-- Every entry of a table rewritten. -/
def tabulate {α β : Type} {n : Nat} (f : α → β) (v : Vector α n) : Vector β n :=
  Vector.ofFn fun i => f v[i]

/-- One entry of a table rewritten. -/
def modifyAt {α : Type} {n : Nat} (v : Vector α n) (i : Fin n) (f : α → α) : Vector α n :=
  v.set i (f v[i])

/-- The level of a cell (R3). -/
def State.level (s : State) (x : Cell) : Level := s.cells[cellIx x]

/-- The last level of a cell takes a new value (R3). -/
def State.setLevel (s : State) (x : Cell) (l : Level) : State := { s with cells := s.cells.set (cellIx x) l }

/-- A station port. -/
def State.port (s : State) : PortId → Port
  | .feed => s.portF
  | .print => s.portP
  | .super => s.portS

/-- A station port rewritten. -/
def State.setPort (s : State) (x : PortId) (p : Port) : State :=
  match x with
  | .feed => { s with portF := p }
  | .print => { s with portP := p }
  | .super => { s with portS := p }

/-- A print head. -/
def State.head (s : State) : HeadId → Head
  | .high => s.headHigh
  | .low => s.headLow

/-- A print head rewritten. -/
def State.setHead (s : State) (h : HeadId) (d : Head) : State :=
  match h with
  | .high => { s with headHigh := d }
  | .low => { s with headLow := d }

/-- A bin table entry. -/
def State.bin (s : State) (b : Bin) : BinEntry := s.bins[binIx b]

/-- A bin table entry rewritten. -/
def State.setBin (s : State) (b : Bin) (e : BinEntry) : State := { s with bins := s.bins.set (binIx b) e }

/-- A tray gate rewritten. -/
def State.setGate (s : State) (k : Fin 6) (g : TrayGate) : State := { s with gates := s.gates.set k g }

/-- A mark slot rewritten. -/
def State.setSlot (s : State) (n : Fin 4) (m : Slot) : State := { s with store := s.store.set n m }

/-- The sort plan entry of a class (R122). -/
def State.sortEntry (s : State) (c : Class) : SortEntry := s.sort[classIx c]

/-- The line is RUNNING or DRAINING. -/
def State.moving (s : State) : Bool := s.line == .running || s.line == .draining

/-! ### Notices and counters -/

/-- A notice raised at one port (R165): its flag is set; a port without the flag is unchanged. -/
def State.raise (s : State) (x : PortId) (n : Notice) : State :=
  match noticeBit x n with
  | none => s
  | some k => s.setPort x { s.port x with flags := (s.port x).flags ||| BitVec.ofNat 8 (2 ^ k) }

/-- The limit of a counter (R136). -/
def tallyMax : Nat := 4294967295

/-- A live counter (R136). -/
def State.tally (s : State) (t : Tally) : Nat := s.live[tallyIx t]

/-- A counter raised by `n` without its notice (R136, and R138 for a line reset). -/
def State.addTally (s : State) (t : Tally) (n : Nat) : State :=
  { s with live := s.live.set (tallyIx t) (min (s.tally t + n) tallyMax) }

/-- A counter raised by `n` (R136): it stops at its limit, and reaching the limit from below raises TALLY SATURATED
at the Supervisor port. -/
def State.bumpBy (s : State) (t : Tally) (n : Nat) : State :=
  if s.tally t < tallyMax ∧ tallyMax ≤ s.tally t + n then
    (s.addTally t n).raise .super .tallySaturated
  else s.addTally t n

/-- A counter raised by one (R136). -/
def State.bump (s : State) (t : Tally) : State := s.bumpBy t 1

/-! ### Completion -/

/-- A port whose command completes with a code (R163): BUSY and BLOCK clear with the command in flight, xDONE is
asserted, xCALL follows the CALL bit. -/
def Port.complete (p : Port) (code : Code) (call : Bool) : Port :=
  { p with inFlight := none, code := code, xdone := true, xcall := call }

/-- A command taken at port `x` with CALL bit `call` completes (R163). -/
def State.complete (s : State) (x : PortId) (call : Bool) (code : Code) : State :=
  s.setPort x ((s.port x).complete code call)

/-- The command in flight at port `x`, if there is one, completes with its own CALL bit (R163). -/
def State.completeFlight (s : State) (x : PortId) (code : Code) : State :=
  match (s.port x).inFlight with
  | none => s
  | some f => s.complete x f.call code

/-- A command taken at port `x` stays in flight (R161). -/
def State.takeOff (s : State) (x : PortId) (call : Bool) (k : Flight) : State :=
  s.setPort x { s.port x with inFlight := some { kind := k, call := call } }

/-- What the command in flight at port `x` holds. -/
def State.flight (s : State) (x : PortId) : Option Flight := ((s.port x).inFlight).map InFlight.kind

/-! ### The piece track -/

/-- The record carrying a tag (R18: at most one does). -/
def State.findRec (s : State) (t : Tag) : Option Record := s.track.find? fun r => r.tag == t

/-- The records of a track that carry a tag, rewritten. -/
def updTrack (t : Tag) (f : Record → Record) (l : List Record) : List Record :=
  l.map fun r => if r.tag == t then f r else r

/-- The record carrying a tag, rewritten. -/
def State.updRec (s : State) (t : Tag) (f : Record → Record) : State := { s with track := updTrack t f s.track }

/-- The record carrying a tag gets a mark outcome (R24). -/
def State.setMark (s : State) (t : Tag) (m : Mark) : State := s.updRec t fun r => { r with mark := some m }

/-- The stall timer stopped: count 0, not dormant (R14). -/
def stoppedTimer : StallTimer := { count := 0, dormant := false }

/-- The track has just lost records: when it is empty the stall timer stops (R14, R29). -/
def State.afterRemoval (s : State) : State :=
  if s.track.isEmpty then { s with stallTimer := stoppedTimer } else s

end Sys2Proof.Machine
end

