-- ==== Sys2Proof/Machine/Flags.lean ====
section
/-! DEFINITION. Machine/Flags.lean: the lines and bits read off a port's fields (R159, R163, R165), the status byte, the
induction permit (R38) and the other conditions the manual judges afresh at each event. -/

namespace Sys2Proof.Machine

/-! ### A port's lines and status bits -/

/-- BUSY: a command is in flight (R163). -/
def Port.busy (p : Port) : Bool := p.inFlight.isSome

/-- BLOCK: a block phase is active (R162, R163). -/
def Port.block (p : Port) : Bool :=
  match p.inFlight.map InFlight.kind with
  | some (.loadMark l) =>
    match l.phase with
    | .wait => false
    | .block _ _ _ => true
  | some (.readTallies _ _ _ _) => true
  | some (.readBytes _) => true
  | _ => false

/-- NOTICE, and the xATN line: a flag is set together with its mask bit (R163, R165). -/
def Port.xatn (p : Port) : Bool := (p.flags &&& p.mask) != 0

/-- The xWAIT line: an access is held (R159). -/
def Port.xwait (p : Port) : Bool := p.held.isSome

/-- The code field: 15, IN PROGRESS, while BUSY, else the code of the last completion (R163). -/
def Port.codeField (p : Port) : Nat := if p.busy then 15 else codeNum p.code

/-- The status byte of a port, `jammed` being the line's JAMMED (R147, R163, 11.9). -/
def Port.statusByte (p : Port) (jammed : Bool) : Byte :=
  BitVec.ofNat 8 (p.busy.toNat * 128 + p.xatn.toNat * 64 + p.block.toNat * 32 + jammed.toNat * 16 + p.codeField)

/-! ### Conditions of the line -/

/-- Every training count stands at 64 (R46). -/
def allTrained (v : Vector Nat 8) : Bool := decide (∀ i : Fin 8, v[i] = 64)

/-- The induction permit (R38). -/
def State.permit (s : State) : Bool :=
  s.line == .running && s.level .i == .clear && decide (s.gap ≤ s.params.geo.feedLead) &&
    decide (s.track.length < 32) && allTrained s.training &&
    (s.bin .endTray).state == .available

/-- The stall timer runs (R14). -/
def State.timerRuns (s : State) : Bool := s.moving && !s.track.isEmpty

/-- The throughput interval runs (R143). -/
def State.intervalRuns (s : State) : Bool := s.line != .standby

/-- A reservation references a bank of a slot (R111). -/
def Reservation.references (r : Reservation) (n : Fin 4) (b : Fin 2) : Bool := r.slot == n && r.bank == b

/-- A head holds a reservation that references a bank (R111). -/
def Head.references (h : Head) (n : Fin 4) (b : Fin 2) : Bool :=
  (match h.active with | none => false | some r => r.references n b) ||
    (match h.pending with | none => false | some r => r.references n b)

/-- Some reservation in either head references a bank (R111, R116). -/
def State.bankReferenced (s : State) (n : Fin 4) (b : Fin 2) : Bool :=
  s.headHigh.references n b || s.headLow.references n b

/-- The number of reservations a head holds (R110). -/
def Head.held (h : Head) : Nat := h.active.isSome.toNat + h.pending.isSome.toNat

/-- A RELEASE is in flight at the Feed port (R36). -/
def State.releaseInFlight (s : State) : Bool := s.flight .feed == some .release

end Sys2Proof.Machine
end

