-- ==== Sys2Proof/Machine/Operands.lean ====
section
/-! DEFINITION. Machine/Operands.lean: the operand ring (R160) and the parameter store as commands reach it (R59, R133,
R167 to R169, 11.9). -/

namespace Sys2Proof.Machine

/-! ### The operand ring -/

/-- A byte pushed onto the top; the bottom byte is lost (R160). -/
def ringPush (b : Byte) (ring : List Byte) : List Byte := b :: ring.dropLast

/-- The top byte (R160). -/
def ringTop (ring : List Byte) : Byte := ring.headD 0

/-- A data read's effect: the top byte moves to the bottom (R160). -/
def ringRotate : List Byte → List Byte
  | [] => []
  | b :: t => t ++ [b]

/-- An operand take's effect: the top byte leaves and a byte of 0 enters at the bottom (R160). -/
def ringTake : List Byte → List Byte
  | [] => []
  | _ :: t => t ++ [0]

/-- Results pushed so that reads return them in the order given (R160). -/
def ringPushAll (bs : List Byte) (ring : List Byte) : List Byte := bs.foldr ringPush ring

/-- The top byte of a port's ring as a number. -/
def State.operand (s : State) (x : PortId) : Nat := (ringTop (s.port x).ring).toNat

/-- The top byte of a port's ring taken (R160). -/
def State.dropOperand (s : State) (x : PortId) : State :=
  s.setPort x { s.port x with ring := ringTake (s.port x).ring }

/-- Results pushed into a port's ring (R160). -/
def State.push (s : State) (x : PortId) (bs : List Byte) : State :=
  s.setPort x { s.port x with ring := ringPushAll bs (s.port x).ring }

/-- A number as a byte. -/
def byteOf (n : Nat) : Byte := BitVec.ofNat 8 n

/-- A two-byte value, most significant byte first (Conventions). -/
def bytes2 (n : Nat) : List Byte := [byteOf (n / 256), byteOf n]

/-- Byte `k` of a four-byte value, most significant first (R141). -/
def byte4 (n k : Nat) : Byte := byteOf (n / 256 ^ (3 - k))

/-! ### Parameters -/

/-- A geometry parameter's value. -/
def Geometry.get (g : Geometry) : GeoId → Nat
  | .pR => g.pR | .pF => g.pF | .flipSetup => g.flipSetup | .flipHold => g.flipHold
  | .pT => g.pT | .pC => g.pC | .pP => g.pP | .pG k => g.pG[k]
  | .gateSetup => g.gateSetup | .gateHold => g.gateHold | .pE => g.pE | .tol => g.tol
  | .minGap => g.minGap | .feedLead => g.feedLead | .arrivalLimit => g.arrivalLimit
  | .maxPiece => g.maxPiece | .minPiece => g.minPiece

/-- A geometry parameter takes a value. -/
def Geometry.set (g : Geometry) (p : GeoId) (v : Nat) : Geometry :=
  match p with
  | .pR => { g with pR := v } | .pF => { g with pF := v }
  | .flipSetup => { g with flipSetup := v } | .flipHold => { g with flipHold := v }
  | .pT => { g with pT := v } | .pC => { g with pC := v } | .pP => { g with pP := v }
  | .pG k => { g with pG := g.pG.set k v }
  | .gateSetup => { g with gateSetup := v } | .gateHold => { g with gateHold := v }
  | .pE => { g with pE := v } | .tol => { g with tol := v } | .minGap => { g with minGap := v }
  | .feedLead => { g with feedLead := v } | .arrivalLimit => { g with arrivalLimit := v }
  | .maxPiece => { g with maxPiece := v } | .minPiece => { g with minPiece := v }

/-- The range of a geometry parameter (11.9). -/
def geoRange : GeoId → Nat × Nat
  | .pR | .pF | .pT | .pC | .pP | .pG _ | .pE => (1, 16000)
  | .flipSetup | .flipHold | .gateSetup | .gateHold | .feedLead => (0, 255)
  | .tol => (4, 64)
  | .minGap => (40, 4095)
  | .arrivalLimit => (50, 4000)
  | .maxPiece => (200, 1000)
  | .minPiece => (100, 400)

/-- The seven consistency conditions (R168). -/
def Geometry.consistent (g : Geometry) : Bool :=
  decide (g.pR + g.flipSetup < g.pF) &&
  decide (g.maxPiece + g.flipSetup + g.pR < g.pF) &&
  decide (g.pF < g.pT ∧ g.pT < g.pC ∧ g.pC < g.pP) &&
  decide (g.pC + g.tol < g.pP) &&
  decide (g.pP < g.pG[0] ∧ g.pG[0] < g.pG[1] ∧ g.pG[1] < g.pG[2] ∧ g.pG[2] < g.pG[3] ∧ g.pG[3] < g.pG[4] ∧
    g.pG[4] < g.pG[5]) &&
  decide (g.pG[5] + 120 < g.pE ∧ g.pE ≤ 16000) &&
  decide (g.gateSetup + g.gateHold ≤ g.minGap)

/-- The detector parameters of a kind. -/
def Params.det (p : Params) : Kind → Detector
  | .tag => p.detTag
  | .meter => p.detMeter

/-- The detector parameters of a kind rewritten. -/
def Params.setDet (p : Params) (k : Kind) (d : Detector) : Params :=
  match k with
  | .tag => { p with detTag := d }
  | .meter => { p with detMeter := d }

/-- A detector parameter's value. -/
def Detector.get (d : Detector) : DetId → Nat
  | .t => d.t | .lmin => d.lmin | .lmax => d.lmax | .smin => d.smin | .g => d.g

/-- A detector parameter takes a value; Lmax rises with an Lmin set above it (R59). -/
def Detector.set (d : Detector) (p : DetId) (v : Nat) : Detector :=
  match p with
  | .t => { d with t := v }
  | .lmin => { d with lmin := v, lmax := max d.lmax v }
  | .lmax => { d with lmax := v }
  | .smin => { d with smin := v }
  | .g => { d with g := v }

/-- The range of a detector parameter; that of Lmax begins at the kind's Lmin (R59). -/
def detRange (d : Detector) : DetId → Nat × Nat
  | .t => (1, 255)
  | .lmin => (1, 255)
  | .lmax => (d.lmin, 400)
  | .smin => (1, 65535)
  | .g => (0, 7)

/-- A value moved to the nearest end of a range (Conventions). -/
def clamp (range : Nat × Nat) (v : Nat) : Nat := max range.1 (min v range.2)

/-- A capacity after both clamps of R133. -/
def clampCapacity (b : Bin) (e : BinEntry) (v : Nat) : Nat :=
  match b with
  | .endTray => max (clamp (50, 4000) v) (min (e.count + e.bound) 4000)
  | .tray _ => max (clamp (50, 4000) v) (e.count + e.bound)

/-- The stored value of a parameter (R169). -/
def State.readParam (s : State) : ParamId → Nat
  | .geo g => s.params.geo.get g
  | .det k d => (s.params.det k).get d
  | .mPre => s.params.mPre
  | .recovery => s.params.recovery
  | .stallLimit => s.params.stallLimit
  | .interval => s.params.interval
  | .capacity b => (s.bin b).capacity

/-- Step 4 of SET PARAMETER: the value clamped into its range (R59, R133, R167). -/
def State.clampParam (s : State) (p : ParamId) (v : Nat) : Nat :=
  match p with
  | .geo g => clamp (geoRange g) v
  | .det k d => clamp (detRange (s.params.det k) d) v
  | .mPre => clamp (0, 63) v
  | .recovery => clamp (0, 255) v
  | .stallLimit => clamp (100, 10000) v
  | .interval => clamp (1, 255) v
  | .capacity b => clampCapacity b (s.bin b) v

end Sys2Proof.Machine
end

