-- ==== Sys2Proof/Machine/Stacker.lean ====
section
/-! DEFINITION. Machine/Stacker.lean: binding (R125), tray gates (R126 to R128), arrivals in a bin and full trays (R129),
swaps (R130, R131), capacities (R133). -/

namespace Sys2Proof.Machine

/-! ### Windows that move -/

/-- A window after a re-anchor by `d` at position `p` (R9): one not begun moves whole, one begun and not passed moves
its to, one passed stays. -/
def Window.moved (w : Window) (p d : Pos) : Window :=
  if !w.begun p then { fromPos := w.fromPos + d, toPos := w.toPos.map (· + d) }
  else if w.passed p then w
  else { w with toPos := w.toPos.map (· + d) }

/-- A window that has begun and has not been passed at `p` ends when its to becomes `t'`, no longer at or after `p`
(R9). -/
def Window.endedAt (w w' : Window) (p : Pos) : Bool :=
  w.begun p && !w.passed p && w'.passed p

/-! ### Tray gates -/

/-- The output brought up to date with a position: OPEN within a listed window or while a hold is present (R127). -/
def TrayGate.refresh (g : TrayGate) (p : Pos) : TrayGate :=
  { g with isOpen := g.windows.any (fun w => w.win.contains p) || g.hold.isSome }

/-- A hold that position `p` is after is cleared (R127). -/
def clearHold (p : Pos) : Option Pos → Option Pos
  | none => none
  | some h => if isAfter p h then none else some h

/-- An encoder step at a tray gate (R127). -/
def TrayGate.step (g : TrayGate) (p : Pos) : TrayGate :=
  TrayGate.refresh
    { g with windows := g.windows.filter (fun w => !w.win.passed p), hold := clearHold p g.hold } p

/-- All six tray gates at an encoder step (R127). -/
def State.stepGates (s : State) : State := { s with gates := tabulate (fun g => g.step s.pos) s.gates }

/-- A re-anchor of a holder at one gate (R9, R126): its windows move, one that ends is removed, the output follows. -/
def TrayGate.reAnchor (g : TrayGate) (t : Tag) (p d : Pos) : TrayGate :=
  TrayGate.refresh
    { g with
      windows := g.windows.filterMap fun w =>
        if w.holder == t then
          if w.win.endedAt (w.win.moved p d) p then none else some { w with win := w.win.moved p d }
        else some w } p

/-- The to of a tray gate window of a letter of `n` steps: anchor + P_Gk + n + GateHold (R126, R128). -/
def gateTo (g : Geometry) (anchor : Pos) (k : Fin 6) (n : Nat) : Pos := posPlus anchor (g.pG[k] + n + g.gateHold)

/-- The tray gate window of a record bound to tray `k`; open while Lp is absent (R126). -/
def gateWindow (g : Geometry) (anchor : Pos) (k : Fin 6) (lp : Option Nat) : Window :=
  { fromPos := posMinus (posPlus anchor g.pG[k]) g.gateSetup, toPos := lp.map (gateTo g anchor k) }

/-- A window whose to is still open takes a to (R128). -/
def Window.closeAt (w : Window) (t : Pos) : Window :=
  match w.toPos with
  | none => { w with toPos := some t }
  | some _ => w

/-- The open to of a holder's windows at a gate is closed, and the output follows (R127, R128). -/
def TrayGate.close (g : TrayGate) (t : Tag) (close : Pos) (p : Pos) : TrayGate :=
  TrayGate.refresh
    { g with windows := g.windows.map fun w => if w.holder == t then { w with win := w.win.closeAt close } else w } p

/-- The later of a hold and a position (R128). -/
def laterHold (h : Option Pos) (q : Pos) : Option Pos :=
  match h with
  | none => some q
  | some p => if isAfter q p then some q else some p

/-- The arrival of a holder at a gate (R128): its window leaves the list and its to joins the hold. -/
def TrayGate.arrive (g : TrayGate) (t : Tag) (p : Pos) : TrayGate :=
  TrayGate.refresh
    { g with
      windows := g.windows.filter (fun w => w.holder != t)
      hold :=
        match g.windows.find? (fun w => w.holder == t) with
        | none => g.hold
        | some w =>
          match w.win.toPos with
          | none => g.hold
          | some q => laterHold g.hold q } p

/-- Every gate CLOSED, its windows and hold discarded (R135). -/
def closedGates : Vector TrayGate 6 := Vector.replicate 6 closedGate

/-! ### Bins -/

/-- A bin enters FULL: TRAY FULL at the Supervisor port, for bin 0 also TRAY FULL END at the Feed port (R129). -/
def State.enterFull (s : State) (b : Bin) : State :=
  let s := (s.setBin b { s.bin b with state := .full }).raise .super .trayFull
  if b = .endTray then s.raise .feed .trayFullEnd else s

/-- The test of R125 step 2: AVAILABLE, and count plus bound below capacity. -/
def BinEntry.accepts (e : BinEntry) : Bool := e.state == .available && decide (e.count + e.bound < e.capacity)

/-- The bin chosen for a record (R125). -/
def State.chooseBin (s : State) (primary alternate : Bin) : Bin :=
  if primary = .endTray then .endTray
  else if (s.bin primary).accepts then primary
  else if alternate = .endTray then .endTray
  else if (s.bin alternate).accepts then alternate
  else .endTray

/-- A record's window joins the list of its tray gate, and the output follows (R126, R127). -/
def State.addGateWindow (s : State) (b : Bin) (t : Tag) (anchor : Pos) (lp : Option Nat) : State :=
  match b with
  | .endTray => s
  | .tray k =>
    let g := s.gates[k]
    s.setGate k
      (TrayGate.refresh
        { g with windows := g.windows ++ [{ holder := t, win := gateWindow s.params.geo anchor k lp }] } s.pos)

/-- Step 4 of a plan: the record is bound (R125). -/
def State.bind (s : State) (t : Tag) (anchor : Pos) (lp : Option Nat) (entry : SortEntry) : State :=
  let b := s.chooseBin entry.primary entry.alternate
  let s := s.setBin b { s.bin b with bound := (s.bin b).bound + 1 }
  let s := s.updRec t fun r => { r with bin := some b }
  s.addGateWindow b t anchor lp

/-- The open tray gate window of a record is closed for a letter of `n` steps (R128). -/
def State.closeGateWindow (s : State) (r : Record) (n : Nat) : State :=
  match r.bin with
  | some (.tray k) => s.setGate k (s.gates[k].close r.tag (gateTo s.params.geo r.anchor k n) s.pos)
  | _ => s

/-- The tray gate windows of a record at a re-anchor by `d` (R9, R126). -/
def State.moveGateWindow (s : State) (r : Record) (d : Pos) : State :=
  match r.bin with
  | some (.tray k) => s.setGate k (s.gates[k].reAnchor r.tag s.pos d)
  | _ => s

/-- Step 4 of an arrival: the window of the record becomes part of its gate's hold (R128, R129). -/
def State.holdGate (s : State) (b : Bin) (t : Tag) : State :=
  match b with
  | .endTray => s
  | .tray k => s.setGate k (s.gates[k].arrive t s.pos)

/-- Steps 1 to 5 of an arrival of the letter of tag `t` in bin `b` (R129). -/
def State.countArrival (s : State) (b : Bin) (t : Tag) : State :=
  let e := s.bin b
  let s := s.setBin b { e with bound := e.bound - 1, count := min (e.count + 1) 65535 }
  let s := (s.bump (.arrivals b)).bump .exited
  let s := s.holdGate b t
  if (s.bin b).state = .available ∧ (s.bin b).capacity ≤ (s.bin b).count then s.enterFull b else s

/-- A swap ended by ABORT (R131): AVAILABLE if the count is below the capacity, else FULL with its notices. -/
def State.endSwap (s : State) (b : Bin) : State :=
  if (s.bin b).count < (s.bin b).capacity then s.setBin b { s.bin b with state := .available }
  else s.enterFull b

/-- The bin table after a line reset: bound 0, SWAPPING back to AVAILABLE or FULL (R131, R135). -/
def BinEntry.lineReset (e : BinEntry) : BinEntry :=
  { e with
    bound := 0
    state := if e.state = .swapping then (if e.count < e.capacity then .available else .full) else e.state }

/-- A bin takes a capacity and its state is judged against it (R133). -/
def State.setCapacity (s : State) (b : Bin) (v : Nat) : State :=
  let e := { s.bin b with capacity := v }
  let s := s.setBin b e
  if e.state = .available ∧ v ≤ e.count then s.enterFull b
  else if e.state = .full ∧ e.count < v then s.setBin b { e with state := .available }
  else s

/-- The 28 bytes of READ BINS: state, bound and count of each bin, bin 0 first (R134). -/
def State.binBytes (s : State) : List Byte :=
  s.bins.toList.flatMap fun e => byteOf (binStateCode e.state) :: byteOf e.bound :: bytes2 e.count

end Sys2Proof.Machine
end

