-- ==== Sys2Proof/Machine/Cancel.lean ====
section
/-! DEFINITION. Machine/Cancel.lean: the print heads: what a head does at an encoder step (R92 to R95), a wanted mark
(R96 to R100), re-anchors (R102), letters that leave early (R103), HEAD OFFLINE and jams (R105, R107, R108), and the
adoption of a shadow bank (R113). -/

namespace Sys2Proof.Machine

/-! ### Encoder steps -/

/-- The 16 dots a bank holds at a column place. -/
def Bank.column (b : Bank) (i : Nat) : Dots := (b.columns[i]?).getD 0

/-- A bank of the mark store. -/
def State.bank (s : State) (n : Fin 4) (b : Fin 2) : Bank := s.store[n].banks[b]

/-- The bus lines at column step `k` of a reservation: forward on HIGH; on LOW from the image's far end, the dots
reversed (R93). -/
def headDots (h : HeadId) (r : Reservation) (bank : Bank) (k : Nat) : Dots :=
  match h with
  | .high => bank.column (r.leadClip + k)
  | .low => (bank.column (r.cols - 1 - (r.leadClip + k))).reverse

/-- A head that outputs the column due at the position: latch loaded and strobe pulsed (R93). -/
def State.output (s : State) (h : HeadId) (d : Head) (r : Reservation) : Head :=
  { d with latch := headDots h r (s.bank r.slot r.bank) (distance r.first s.pos), strobe := true }

/-- The head begins its Active reservation if it is FREE and the position is its first column (R92). -/
def State.fire (s : State) (h : HeadId) (d : Head) : Head :=
  match d.active with
  | none => d
  | some r =>
    if d.state = .free ∧ r.first = s.pos then
      if r.cut || !r.linked then { d with state := .recovering }
      else
        let d := s.output h d r
        if r.last = s.pos then { d with state := .recovering } else { d with state := .marking }
    else d

/-- A step at which the head puts out no column: all dots off, no strobe (R93). -/
def Head.dark (d : Head) : Head := { d with latch := 0, strobe := false }

/-- The Active leaves its slot and the Pending moves up (R95). -/
def Head.moveUp (d : Head) : Head := { d with active := d.pending, pending := none }

/-- A reservation ended at its free position is counted and its record's mark becomes DONE (R95). -/
def State.countDone (s : State) (r : Reservation) : State :=
  if r.cut then s
  else
    let s := s.bump .cancelled
    if r.linked then s.setMark r.holder .done else s

/-- One head at an encoder step (R91 to R95). -/
def State.stepHead (s : State) (h : HeadId) : State :=
  let d := (s.head h).dark
  match d.active with
  | none => s.setHead h d
  | some r =>
    match d.state with
    | .offline => s.setHead h d
    | .free => s.setHead h (s.fire h d)
    | .marking =>
      let d := s.output h d r
      s.setHead h (if r.last = s.pos then { d with state := .recovering } else d)
    | .recovering =>
      if r.free = s.pos then
        let s := s.countDone r
        s.setHead h (s.fire h { d.moveUp with state := .free })
      else s.setHead h d

/-- Both heads at an encoder step (R92 to R95). -/
def State.stepHeads (s : State) : State := (s.stepHead .high).stepHead .low

/-! ### The mark store -/

/-- Adoption: a ready shadow becomes the live bank (R113). -/
def Slot.adopt (m : Slot) : Slot := if m.ready then { m with live := m.live.rev, ready := false } else m

/-! ### A wanted mark -/

/-- What the planner hands the cancel unit (R89). -/
structure MarkRequest where
  tag    : Tag
  anchor : Pos
  facing : Facing
  slot   : Fin 4
  start  : Int
  last   : Int
  lp     : Nat

/-- The head for an orientation (R96). -/
def headFor : Facing → HeadId
  | .up => .high
  | .inv => .low

/-- The nominal start of an image of `cols` columns (R98). -/
def nominalStart (h : HeadId) (start last : Int) (cols mPre : Nat) : Int :=
  match h with
  | .high => start - mPre
  | .low => last + mPre - cols + 1

/-- The clipped span: first and last offsets and lead clip, absent when empty (R98). -/
def clippedSpan (nominal : Int) (cols lp : Nat) : Option (Nat × Nat × Nat) :=
  let first := max nominal 0
  let lastc := min (nominal + cols - 1) (lp - 1)
  if lastc < first then none else some (first.toNat, lastc.toNat, (first - nominal).toNat)

/-- The reservation of a placed mark (R98, R99). -/
def placeMark (p : Params) (q : MarkRequest) (bank : Fin 2) (cols : Nat) : Option Reservation :=
  (clippedSpan (nominalStart (headFor q.facing) q.start q.last cols p.mPre) cols q.lp).map fun span =>
    let lastPos := posPlus q.anchor (p.geo.pP + span.2.1)
    { holder := q.tag, linked := true, cut := false, slot := q.slot, bank := bank, cols := cols,
      leadClip := span.2.2, first := posPlus q.anchor (p.geo.pP + span.1), last := lastPos,
      free := posPlus lastPos (1 + p.recovery) }

/-- A head's latest reservation: the Pending if present, else the Active (R100). -/
def Head.latest (d : Head) : Option Reservation := if d.pending.isSome then d.pending else d.active

/-- A mark is refused when both slots are occupied or it begins before the latest reservation is free (R100). -/
def Head.refuses (d : Head) (r : Reservation) : Bool :=
  (d.active.isSome && d.pending.isSome) ||
    match d.latest with
    | none => false
    | some l => isBefore r.first l.free

/-- An accepted mark takes the Active slot if empty, else the Pending slot (R100). -/
def Head.accept (d : Head) (r : Reservation) : Head :=
  if d.active.isNone then { d with active := some r } else { d with pending := some r }

/-- A mark given up at its plan for an OFFLINE head or for NO-MARK: outcome and tally (R97). -/
def State.giveUp (s : State) (t : Tag) (r : Reason) : State :=
  (s.setMark t (.uncancelled r)).bump .uncancelledOffline

/-- A mark refused or dropped for conflict: outcome, tally and HEAD CONFLICT (R100, R102). -/
def State.conflictMark (s : State) (t : Tag) : State :=
  ((s.setMark t (.uncancelled .conflict)).bump .uncancelledConflict).raise .print .headConflict

/-- Scheduling on a head (R100). -/
def State.scheduleMark (s : State) (h : HeadId) (t : Tag) (r : Reservation) : State :=
  if (s.head h).refuses r then s.conflictMark t
  else (s.setHead h ((s.head h).accept r)).setMark t (.scheduled h)

/-- A wanted mark through the five steps of R97. -/
def State.requestMark (s : State) (q : MarkRequest) : State :=
  let h := headFor q.facing
  let s := s.setSlot q.slot s.store[q.slot].adopt
  let live := s.store[q.slot].live
  let cols := (s.bank q.slot live).count
  if (s.head h).state = .offline then s.giveUp q.tag .offline
  else if cols = 0 then (s.giveUp q.tag .noMark).raise .print .noMark
  else
    match placeMark s.params q live cols with
    | none => (s.giveUp q.tag .noMark).raise .print .noMark
    | some r => s.scheduleMark h q.tag r

/-! ### Re-anchors and early departures -/

/-- A reservation moved by a re-anchor (R102). -/
def Reservation.shift (r : Reservation) (d : Pos) : Reservation :=
  { r with first := r.first + d, last := r.last + d, free := r.free + d }

/-- The reservation is the one the record of tag `t` made (R91, R103). -/
def Reservation.isOf (r : Reservation) (t : Tag) : Bool := r.linked && r.holder == t

/-- The head holds, in the given slot, the reservation that the record of tag `t` made. -/
def holdsOf (slot : Option Reservation) (t : Tag) : Bool :=
  match slot with
  | none => false
  | some r => r.isOf t

/-- A head at a re-anchor by `d` of the record of tag `t` (R102). The second part says whether the moved reservation
was dropped. -/
def Head.reAnchor (h : Head) (t : Tag) (d : Pos) : Head × Bool :=
  if holdsOf h.active t then
    let moved := h.active.map (·.shift d)
    match moved, h.pending with
    | some a, some p => if isBefore p.first a.free then (h.moveUp, true) else ({ h with active := moved }, false)
    | _, _ => ({ h with active := moved }, false)
  else if holdsOf h.pending t then
    let moved := h.pending.map (·.shift d)
    match moved, h.active with
    | some p, some a => if isBefore p.first a.free then ({ h with pending := none }, true)
                        else ({ h with pending := moved }, false)
    | _, _ => ({ h with pending := moved }, false)
  else (h, false)

/-- The mark of a record at a re-anchor (R9, R102). -/
def State.moveMark (s : State) (r : Record) (d : Pos) : State :=
  match r.mark with
  | some (.scheduled h) =>
    let moved := (s.head h).reAnchor r.tag d
    let s := s.setHead h moved.1
    if moved.2 then s.conflictMark r.tag else s
  | _ => s

/-- A reservation unlinked at its record's arrival (R103); `finished` says its last column has been output. -/
def Reservation.unlink (r : Reservation) (finished : Bool) : Reservation :=
  { r with linked := false, cut := r.cut || !finished }

/-- The head that holds an arriving record's reservation (R103). The second part says whether the mark was cut. -/
def Head.depart (h : Head) (t : Tag) : Head × Bool :=
  if holdsOf h.active t then
    let finished := h.state == .recovering
    ({ h with active := h.active.map (·.unlink finished)
              state := if h.state = .marking then .recovering else h.state }, !finished)
  else if holdsOf h.pending t then ({ h with pending := h.pending.map (·.unlink false) }, true)
  else (h, false)

/-- The mark of an arriving record (R103). -/
def State.departMark (s : State) (r : Record) : State :=
  match r.mark with
  | some (.scheduled h) =>
    let left := (s.head h).depart r.tag
    let s := s.setHead h left.1
    if left.2 then (s.bump .incompleteMarks).raise .print .markIncomplete else s
  | _ => s

/-! ### HEAD OFFLINE, jams and line resets -/

/-- The linked record's mark gets its outcome. -/
def State.outcome (s : State) (r : Reservation) (m : Mark) : State :=
  if r.linked then s.setMark r.holder m else s

/-- A reservation not yet begun, settled by HEAD OFFLINE (counted, R105) or by a jam (not counted, R107). -/
def State.settleUnbegun (s : State) (byJam : Bool) (r : Reservation) : State :=
  if r.cut then s
  else if byJam then s.outcome r (.uncancelled .jam)
  else (s.outcome r (.uncancelled .offline)).bump .uncancelledOffline

/-- The Active of a head in state `st`, settled by HEAD OFFLINE or by a jam (R105, R107). MARK INCOMPLETE is raised by
HEAD OFFLINE alone. -/
def State.settleActive (s : State) (byJam : Bool) (st : HeadState) (r : Reservation) : State :=
  if r.cut then s
  else
    match st with
    | .marking =>
      let s := (s.outcome r .incomplete).bump .incompleteMarks
      if byJam then s else s.raise .print .markIncomplete
    | .recovering => (s.outcome r .done).bump .cancelled
    | _ => s.settleUnbegun byJam r

/-- A slot's content, if there is any, settled. -/
def State.settleSlot (s : State) (f : State → Reservation → State) : Option Reservation → State
  | none => s
  | some r => f s r

/-- Both reservations of a head settled (R105, R107). -/
def State.settleHead (s : State) (byJam : Bool) (h : HeadId) : State :=
  let d := s.head h
  let s := s.settleSlot (fun s r => s.settleActive byJam d.state r) d.active
  s.settleSlot (fun s r => s.settleUnbegun byJam r) d.pending

/-- A head emptied, all dots off, in a given state (R105, R107, R108). -/
def emptiedHead (st : HeadState) : Head := { offlineHead with state := st }

/-- The state a head has after a jam or a line reset: OFFLINE is kept, any other becomes FREE (R107, R108). -/
def HeadState.afterJam (st : HeadState) : HeadState := if st = .offline then .offline else .free

/-- The cancel unit at a jam (R107). -/
def State.jamHead (s : State) (h : HeadId) : State :=
  let st := (s.head h).state
  (s.settleHead true h).setHead h (emptiedHead st.afterJam)

/-- HEAD OFFLINE on a head (R105): OFFLINE heads are unchanged. -/
def State.takeOffline (s : State) (h : HeadId) : State :=
  if (s.head h).state = .offline then s else (s.settleHead false h).setHead h (emptiedHead .offline)

end Sys2Proof.Machine
end

