-- ==== Sys2Proof/Machine/Planner.lean ====
section
/-! DEFINITION. Machine/Planner.lean: the facing planner: where a finding lies (R74, R75), classification (R76 to R79), the
flip gate (R80 to R87), mirrored offsets (R88), routing (R89) and the plan as a whole (R73). -/

namespace Sys2Proof.Machine

/-! ### Where a finding lies -/

/-- The end a candidate lies at, for a letter of `lp` steps (R74). -/
def Candidate.end_ (c : Candidate) (lp : Nat) : End := if 2 * ((c.start + c.last) / 2) < lp then .leading else .trailing

/-- The orientation code of a corner (R75). -/
def orientCode (s : Side) (b : Band) (e : End) : OrientCode :=
  match s, b, e with
  | .right, .high, .leading => .faced { facing := .up, needsTurn := false }
  | .right, .low, .trailing => .faced { facing := .inv, needsTurn := false }
  | .left, .high, .trailing => .faced { facing := .up, needsTurn := true }
  | .left, .low, .leading => .faced { facing := .inv, needsTurn := true }
  | _, _, _ => .unusual

/-- A best candidate with its orientation code. -/
abbrev Coded := OrientCode × Candidate

/-- The findings of a record. -/
abbrev Findings := Vector (Option Candidate) 8

/-- The candidate of one channel with its code, if there is one. -/
def codedAt (f : Findings) (lp : Nat) (k : Kind) (s : Side) (b : Band) : Option Coded :=
  (f[channelIx k s b]).map fun c => (orientCode s b (c.end_ lp), c)

/-- The candidates of a kind in channel order (R76). -/
def codedOf (f : Findings) (lp : Nat) (k : Kind) : List Coded :=
  [codedAt f lp k .right .high, codedAt f lp k .right .low, codedAt f lp k .left .high, codedAt f lp k .left .low].filterMap
    id

/-- The candidate with the highest score, the first of equals (R76). -/
def topScore : List Coded → Option Coded
  | [] => none
  | c :: l =>
    match topScore l with
    | none => some c
    | some d => if c.2.score < d.2.score then some d else some c

/-- C2: the best of the candidates whose code differs from C1's (R76). -/
def secondOf (l : List Coded) (c1 : Coded) : Option Coded := topScore (l.filter fun c => c.1 != c1.1)

/-- C2 is too close to C1 (R78). -/
def tooClose (c1 c2 : Coded) : Bool := decide (c1.2.score < 2 * c2.2.score)

/-- What classification yields: class, orientation of a faced class, C1 (R77, R79). -/
structure Classified where
  cls    : Class
  orient : Option Orientation
  c1     : Option Candidate

/-- The class of a facing within a kind (R77). -/
def facedClass : Kind → Facing → Class
  | .tag, .up => .stampedUp
  | .tag, .inv => .stampedInv
  | .meter, .up => .meteredUp
  | .meter, .inv => .meteredInv

/-- The decision from a kind with C1 present (R77). -/
def decideKind (k : Kind) (l : List Coded) (c1 : Coded) : Classified :=
  let close := match secondOf l c1 with | none => false | some c2 => tooClose c1 c2
  if close then { cls := .ambiguous, orient := none, c1 := some c1.2 }
  else
    match c1.1 with
    | .unusual => { cls := .unusual, orient := none, c1 := some c1.2 }
    | .faced o => { cls := facedClass k o.facing, orient := some o, c1 := some c1.2 }

/-- The class of an IN RANGE piece from its findings (R77). -/
def classifyInRange (f : Findings) (lp : Nat) : Classified :=
  match topScore (codedOf f lp .tag) with
  | some c1 => decideKind .tag (codedOf f lp .tag) c1
  | none =>
    match topScore (codedOf f lp .meter) with
    | some c1 => decideKind .meter (codedOf f lp .meter) c1
    | none => { cls := .unfaced, orient := none, c1 := none }

/-- The class of a record (R77). -/
def classify (v : Verdict) (f : Findings) (lp : Nat) : Classified :=
  match v with
  | .short => { cls := .short, orient := none, c1 := none }
  | .overlength => { cls := .overlength, orient := none, c1 := none }
  | .inRange => classifyInRange f lp

/-! ### The flip gate at a plan -/

/-- The needed setting (R81). -/
def neededSetting (o : Option Orientation) : Setting :=
  match o with
  | some p => if p.needsTurn then .turn else .straight
  | none => .straight

/-- The to of a flip gate window of a letter of `n` steps: anchor + P_F + n + FlipHold (R81, R85). -/
def flipTo (g : Geometry) (anchor : Pos) (n : Nat) : Pos := posPlus anchor (g.pF + n + g.flipHold)

/-- A record's flip gate window; open while Lp is absent (R81, R83). -/
def flipWindow (g : Geometry) (anchor : Pos) (lp : Option Nat) : Window :=
  { fromPos := posMinus (posPlus anchor g.pF) g.flipSetup, toPos := lp.map (flipTo g anchor) }

/-- An open to reaches every position; a closed one the positions it is at or after (R82). -/
def reaches (to_ : Option Pos) (p : Pos) : Bool :=
  match to_ with
  | none => true
  | some t => atOrAfter t p

/-- A new window overlaps the last reservation's (R82). -/
def overlaps (last new : Window) : Bool := reaches last.toPos new.fromPos && reaches new.toPos last.fromPos

/-- The window of an OVERLENGTH record in conflict begins after the last reservation's to (R83). -/
def afterWindow (last new : Window) : Window :=
  match last.toPos with
  | none => new
  | some t => { new with fromPos := t + 1 }

/-- The gate setting with its window, and the turn conflict flag (R82, R83). -/
def planGate (last : Option FlipReservation) (needed : Setting) (w : Window) (overlength : Bool) : GatePlan × Bool :=
  match last with
  | none => ({ setting := needed, win := w }, false)
  | some l =>
    if overlaps l.win w && l.setting != needed then
      if overlength then ({ setting := needed, win := afterWindow l.win w }, true)
      else ({ setting := l.setting, win := w }, true)
    else ({ setting := needed, win := w }, false)

/-- The counter a plan's gate setting raises, if any: Turn conflicts, or Flipped for a needed TURN (R82, R83). -/
def gateTally (g : GatePlan) (conflict : Bool) : Option Tally :=
  if conflict then some .turnConflicts else if g.setting = .turn then some .flipped else none

/-- A counter raised if one is named. -/
def State.bumpIf (s : State) (t : Option Tally) : State :=
  match t with
  | none => s
  | some t => s.bump t

/-- The gate output takes a setting whose window contains the position (R84). -/
def State.driveGate (s : State) (g : GatePlan) : State :=
  if g.win.contains s.pos then { s with gateOut := g.setting } else s

/-! ### Mirrored offsets and routing -/

/-- The first offset handed to the cancel unit (R88). -/
def mirroredStart (st : Setting) (c : Candidate) (lp : Nat) : Int :=
  if st = .turn then (lp : Int) - 1 - c.last else c.start

/-- The last offset handed to the cancel unit (R88). -/
def mirroredLast (st : Setting) (c : Candidate) (lp : Nat) : Int :=
  if st = .turn then (lp : Int) - 1 - c.start else c.last

/-- The class whose sort plan entry routes a record (R89). -/
def routeClass (c : Class) (conflict : Bool) : Class := if conflict then .unfaced else c

/-- A mark is wanted (R96). -/
def markWanted (c : Class) (conflict : Bool) (e : SortEntry) : Bool := isFaced c && !conflict && e.cancel

/-- The mark of a plan: NONE when not wanted, else the cancel unit's answer (R89, R96, R97). -/
def State.planMark (s : State) (t : Tag) (anchor : Pos) (k : Classified) (g : GatePlan) (conflict : Bool)
    (e : SortEntry) (lp : Nat) : State :=
  if markWanted k.cls conflict e then
    match k.orient, k.c1 with
    | some o, some c =>
      s.requestMark
        { tag := t, anchor := anchor, facing := o.facing, slot := e.slot, start := mirroredStart g.setting c lp,
          last := mirroredLast g.setting c lp, lp := lp }
    | _, _ => s.setMark t .none
  else s.setMark t .none

/-- Steps 1 and 2 of a plan: class, orientation, gate setting with its window, turn conflict, the new last reservation
and the counters (R79, R82, R83). -/
def State.planFacing (s : State) (t : Tag) (k : Classified) (g : GatePlan) (conflict : Bool) : State :=
  let s := s.bump (.cls k.cls)
  let s := s.bumpIf (gateTally g conflict)
  let s := { s with lastRes := some { holder := t, setting := g.setting, win := g.win } }
  s.updRec t fun r => { r with cls := some k.cls, orient := k.orient, gate := some g, conflict := some conflict }

/-- The plan of a record at its read completion (R73, R89). -/
def State.plan (s : State) (t : Tag) (v : Verdict) : State :=
  match s.findRec t with
  | none => s
  | some r =>
    let lp := r.lp.getD 0
    let k := classify v (r.findings.getD (Vector.replicate 8 none)) lp
    let w := flipWindow s.params.geo r.anchor (if v = .overlength then none else r.lp)
    let g := planGate s.lastRes (neededSetting k.orient) w (v == .overlength)
    let s := s.planFacing t k g.1 g.2
    let e := s.sortEntry (routeClass k.cls g.2)
    let s := s.planMark t r.anchor k g.1 g.2 e lp
    let s := s.bind t r.anchor (if v = .overlength then none else r.lp) e
    let s := s.updRec t fun r => { r with stage := .planned }
    s.driveGate g.1

/-! ### Keeping the reservations true -/

/-- The gate output at an encoder step (R84). Windows that contain one position hold one setting
(notes/assumptions/16.md). -/
def State.stepFlip (s : State) : State :=
  if s.moving then
    match s.track.find? fun r =>
        r.stage == .planned && (match r.gate with | none => false | some g => g.win.contains s.pos) with
    | none => s
    | some r => match r.gate with | none => s | some g => { s with gateOut := g.setting }
  else s

/-- The last reservation retired when the position is after its to (R86). -/
def State.retire (s : State) : State :=
  match s.lastRes with
  | none => s
  | some l => if l.win.passed s.pos then { s with lastRes := none } else s

/-- The flip gate window of a record closed for a letter of `n` steps, with the last reservation if it is the holder
(R85). -/
def State.closeFlip (s : State) (r : Record) (n : Nat) : State :=
  let t := flipTo s.params.geo r.anchor n
  let s := s.updRec r.tag fun q => { q with gate := q.gate.map fun g => { g with win := g.win.closeAt t } }
  match s.lastRes with
  | none => s
  | some l => if l.holder = r.tag then { s with lastRes := some { l with win := l.win.closeAt t } } else s

/-- The flip gate windows that limit a moved window: those of the other PLANNED records with another setting (R87). -/
def rivals (track : List Record) (t : Tag) (st : Setting) : List Window :=
  track.filterMap fun r =>
    if r.stage == .planned && r.tag != t then
      match r.gate with
      | none => none
      | some g => if g.setting != st then some g.win else none
    else none

/-- A from moved earlier stops at the position after the to of any rival it would reach (R87). -/
def limitFrom (old new : Pos) (ws : List Window) : Pos :=
  ws.foldl (fun cur w =>
    match w.toPos with
    | none => cur
    | some t => if atOrAfter t cur && isBefore t old then t + 1 else cur) new

/-- A to moved later stops at the position before the from of any rival it would reach (R87). -/
def limitTo (old new : Pos) (ws : List Window) : Pos :=
  ws.foldl (fun cur w => if atOrAfter cur w.fromPos && isAfter w.fromPos old then w.fromPos - 1 else cur) new

/-- A moved from with its limit, which bears on corrections to earlier positions (R87). -/
def moveFrom (old d : Pos) (ws : List Window) : Pos := if d.msb then limitFrom old (old + d) ws else old + d

/-- A moved to with its limit, which bears on corrections to later positions (R87). -/
def moveTo (old d : Pos) (ws : List Window) : Pos := if d.msb then old + d else limitTo old (old + d) ws

/-- A flip gate window at a re-anchor by `d` at position `p`: R9 with the limits of R87. The to of a begun window moves
only while its record holds the last reservation. -/
def Window.flipMoved (w : Window) (p d : Pos) (holder : Bool) (ws : List Window) : Window :=
  if !w.begun p then
    { fromPos := moveFrom w.fromPos d ws, toPos := w.toPos.map fun t => moveTo t d ws }
  else if w.passed p || !holder then w
  else { w with toPos := w.toPos.map fun t => moveTo t d ws }

/-- The record holds the last reservation (R80). -/
def State.holdsLast (s : State) (t : Tag) : Bool :=
  match s.lastRes with
  | none => false
  | some l => l.holder == t

/-- A re-anchor has moved the to of `w` to before `p`, whether or not the window had begun (R86). -/
def Window.movedBehind (w w' : Window) (p : Pos) : Bool := !w.passed p && w'.passed p

/-- The flip gate window of a record at a re-anchor by `d` (R9, R86, R87): the last reservation moves with it, and is
retired in the event if its to comes to lie before the position. -/
def State.moveFlip (s : State) (r : Record) (d : Pos) : State :=
  match r.gate with
  | none => s
  | some g =>
    let w := g.win.flipMoved s.pos d (s.holdsLast r.tag) (rivals s.track r.tag g.setting)
    let s := s.updRec r.tag fun q => { q with gate := some { g with win := w } }
    match s.lastRes with
    | none => s
    | some l =>
      if l.holder = r.tag then
        if g.win.movedBehind w s.pos then { s with lastRes := none }
        else { s with lastRes := some { l with win := w } }
      else s

end Sys2Proof.Machine
end

