-- ==== Sys2Proof/Machine/Reader.lean ====
section
/-! DEFINITION. Machine/Reader.lean: the stamp reader: baselines (R55, R57), read start (R60, R61), samples and runs (R62 to
R66), read completion, abandonment and the trail edge of an overrun read (R67 to R69). -/

namespace Sys2Proof.Machine

/-! ### Baselines -/

/-- A baseline adjusted at a training step: floor(delta / 8) is added; Int division by 8 rounds toward minus infinity
(R55). -/
def trainedBaseline (b16 : Nat) (s : Byte) : Nat := ((b16 : Int) + (16 * (s.toNat : Int) - b16) / 8).toNat

/-- The working level (R57). -/
def workingLevel (b16 : Nat) : Nat := (b16 + 8) / 16

/-! ### Runs -/

/-- A closed run judged (R65, R66). -/
def Channel.judge (c : Channel) (p : Detector) (r : Run) : Channel :=
  let length := r.last - r.start + 1
  if length < p.lmin then c
  else if p.lmax < length then { c with flooded := true }
  else if r.score < p.smin then c
  else
    let new : Candidate := { start := r.start, last := r.last, score := r.score }
    match c.best with
    | none => { c with best := some new }
    | some b => if b.score < r.score then { c with best := some new } else c

/-- The open run of a channel closed and judged (R65). -/
def Channel.closeRun (c : Channel) (p : Detector) : Channel :=
  match c.run with
  | none => c
  | some r => { c with run := none }.judge p r

/-- A step at offset `o` with excess `e` acts on a channel's run (R62 to R64). -/
def Channel.sample (c : Channel) (p : Detector) (o : Nat) (e : Int) : Channel :=
  if 1 ≤ e then
    match c.run with
    | none => { c with run := some { start := o, last := o, score := e.toNat, gap := 0 } }
    | some r => { c with run := some { r with last := o, score := min (r.score + e.toNat) 65535, gap := 0 } }
  else
    match c.run with
    | none => c
    | some r =>
      if p.g < r.gap + 1 then { c with run := some { r with gap := r.gap + 1 } }.closeRun p
      else { c with run := some { r with gap := r.gap + 1 } }

/-- The latched parameters of a channel's kind (R60). -/
def Latched.of (l : Latched) (i : Fin 8) : Detector :=
  match channelKind i with
  | .tag => l.tag
  | .meter => l.meter

/-- The excess of a sample (R62). -/
def excess (s : Byte) (b16 : Nat) (p : Detector) : Int := (s.toNat : Int) - workingLevel b16 - p.t

/-- The eight channels at a read sample of offset `o` (R62). -/
def sampleChannels (ch : Vector Channel 8) (l : Latched) (base : Vector Nat 8) (samples : Samples) (o : Nat) :
    Vector Channel 8 :=
  Vector.ofFn fun i => ch[i].sample (l.of i) o (excess samples[i] base[i] (l.of i))

/-- Every open run closed at a read's end (R64, R67, R68). -/
def closeChannels (ch : Vector Channel 8) (l : Latched) : Vector Channel 8 :=
  Vector.ofFn fun i => ch[i].closeRun (l.of i)

/-- The findings: the best candidates in channel order (R67). -/
def findingsOf (ch : Vector Channel 8) : Findings := tabulate Channel.best ch

/-- Some channel is flooded (R67). -/
def anyFlooded (ch : Vector Channel 8) : Bool := decide (∃ i : Fin 8, ch[i].flooded = true)

/-! ### Reads -/

/-- The set latched at a matched lead edge at R (R60). -/
def State.latch (s : State) : Latched where
  tag := s.params.detTag
  meter := s.params.detMeter
  maxPiece := s.params.geo.maxPiece
  minPiece := s.params.geo.minPiece

/-- Read start for the record of tag `t` (R22, R61). -/
def State.startRead (s : State) (t : Tag) : State :=
  { s with
    read := .sampling { tag := t, latched := s.latch, count := 0 } (Vector.replicate 8 freshChannel)
    rOcc := some t
    track := updTrack t (fun r => { r with stage := .reading }) s.track }

/-- The findings written into the record, and the piece counted if a channel flooded (R67, R68). -/
def State.writeFindings (s : State) (t : Tag) (ch : Vector Channel 8) : State :=
  let s := s.updRec t fun r => { r with findings := some (findingsOf ch) }
  if anyFlooded ch then s.bump .floodedPieces else s

/-- A step taken while SAMPLING: the count rises, and unless it exceeds MaxPiece the samples are judged (R62). -/
def State.readSample (s : State) (r : Reading) (ch : Vector Channel 8) (samples : Samples) : State :=
  let r' := { r with count := r.count + 1 }
  if r.latched.maxPiece < r'.count then { s with read := .sampling r' ch }
  else { s with read := .sampling r' (sampleChannels ch r.latched s.baselines samples r.count) }

/-- The abandonment of a read (R68). -/
def State.abandonRead (s : State) (r : Reading) (ch : Vector Channel 8) : State :=
  let s := s.writeFindings r.tag (closeChannels ch r.latched)
  { s with read := .overrun r }.plan r.tag .overlength

/-- The abandonment, if the step count has risen above the latched MaxPiece while R is blocked (R68). -/
def State.abandonIfDue (s : State) : State :=
  match s.read with
  | .sampling r ch =>
    if s.moving && s.level .r == .blocked && decide (r.latched.maxPiece < r.count) then s.abandonRead r ch else s
  | _ => s

/-- The completion of a read at the trail edge at R (R67). -/
def State.completeRead (s : State) (r : Reading) (ch : Vector Channel 8) : State :=
  let s := s.updRec r.tag fun q => { q with lp := some r.count }
  let s := s.writeFindings r.tag (closeChannels ch r.latched)
  { s with read := .idle }.plan r.tag (if r.count < r.latched.minPiece then .short else .inRange)

/-- Both open windows of a record closed for a letter of `n` steps (R85, R128). -/
def State.closeWindows (s : State) (t : Tag) (n : Nat) : State :=
  match s.findRec t with
  | none => s
  | some r => (s.closeFlip r n).closeGateWindow r n

/-- The trail edge at R of an OVERRUN read: Lp is fixed and the windows are closed (R69, R85, R128). -/
def State.completeOverrun (s : State) (r : Reading) : State :=
  let s := s.updRec r.tag fun q => { q with lp := some r.count }
  { s with read := .idle }.closeWindows r.tag r.count

/-- The reader at a trail edge at R naming the record of tag `t` (R13, R67, R69). -/
def State.endRead (s : State) (t : Tag) : State :=
  match s.read with
  | .sampling r ch => if r.tag = t then s.completeRead r ch else s
  | .overrun r => if r.tag = t then s.completeOverrun r else s
  | .idle => s

/-- The step count of the read of a record, if it is being read (R22, R34). -/
def State.stepCount (s : State) (t : Tag) : Option Nat :=
  match s.read with
  | .sampling r _ => if r.tag = t then some r.count else none
  | .overrun r => if r.tag = t then some r.count else none
  | .idle => none

/-- The reader when the record of tag `t` leaves the track: its read ends, and the open windows of an OVERRUN read are
closed at the step count (R69, R85, R128). -/
def State.leaveRead (s : State) (t : Tag) : State :=
  match s.read with
  | .sampling r _ => if r.tag = t then { s with read := .idle } else s
  | .overrun r => if r.tag = t then { s with read := .idle }.closeWindows t r.count else s
  | .idle => s

/-- The reader at a jam: the Lp of the record being read is fixed at the step count (R26, R71). -/
def State.jamRead (s : State) : State :=
  match s.read with
  | .sampling r _ => { s.updRec r.tag (fun q => { q with lp := some r.count }) with read := .idle }
  | .overrun r => { s.updRec r.tag (fun q => { q with lp := some r.count }) with read := .idle }
  | .idle => s

/-! ### A step at the reader -/

/-- A training step: baselines adjusted, training counts stepped, TRAINED raised at the step that brings them to 64
(R46, R47, R55). -/
def State.train (s : State) (samples : Samples) : State :=
  let t : State := { s with
    baselines := Vector.ofFn fun i => trainedBaseline s.baselines[i] samples[i]
    training := tabulate (fun n => min (n + 1) 64) s.training }
  if !allTrained s.training && allTrained t.training then t.raise .feed .trained else t

/-- The use of a step's samples (R53), for the line state `line` in which the step was taken. -/
def State.useSamples (s : State) (line : LineState) (samples : Samples) : State :=
  match s.level .r with
  | .clear =>
    if line = .idle ∨ line = .running ∨ line = .draining then s.train samples else s
  | .blocked =>
    if line = .running ∨ line = .draining then
      match s.read with
      | .sampling r ch => s.readSample r ch samples
      | .overrun r => { s with read := .overrun { r with count := min (r.count + 1) 65535 } }
      | .idle => s
    else s

end Sys2Proof.Machine
end

