-- ==== Sys2Proof/Machine/Checkpoint.lean ====
section
/-! DEFINITION. Machine/Checkpoint.lean: the jam (R148, R149), re-anchoring (R8, R9), arrivals and removal (R27, R129),
matching (R6, R7), record creation (R19, R20, R42), the missing check (R11), trail edges (R13, R21), grant expiry (R43)
and the encoder step as a whole (R1). -/

namespace Sys2Proof.Machine

/-! ### The jam -/

/-- A record at a jam: HELD, no next checkpoint (R26). -/
def Record.held (r : Record) : Record := { r with stage := .held, next := none }

/-- The induction unit at a jam: a RELEASE or DRAIN in flight ends with JAMMED, a grant is dropped (R45, R150). -/
def State.jamInduction (s : State) : State :=
  let s := { s with release := .none }
  match s.flight .feed with
  | some .release => s.completeFlight .feed .jammed
  | some .drain => s.completeFlight .feed .jammed
  | _ => s

/-- The line controller at a jam (R148). -/
def State.enterJam (s : State) (cause : JamCause) (cell : Cell) : State :=
  let s := { s with line := .jammed, jamCause := cause, jamCell := some cell }
  (((s.bump .jams).raise .feed .jam).raise .print .jam).raise .super .jam

/-- A jam: the actions of every block (R149). -/
def State.jam (s : State) (cause : JamCause) (cell : Cell) : State :=
  let s := s.enterJam cause cell
  let s := s.jamRead
  let s := (s.jamHead .high).jamHead .low
  let s := { s with track := s.track.map Record.held, gates := closedGates, stallTimer := stoppedTimer }
  s.jamInduction

/-- A stray lead edge in RUNNING or DRAINING (R10). -/
def State.strayJam (s : State) (x : Cell) : State := (s.bump .strayEdges).jam .stray x

/-! ### Re-anchoring -/

/-- The anchor of a record revised to the observed position less `cellPos`, with the effects of a non-zero correction
(R7, R8, R9). -/
def State.reAnchor (s : State) (r : Record) (cellPos : Nat) : State :=
  let anchor := posMinus s.pos cellPos
  let d := anchor - r.anchor
  if d = 0 then s
  else
    let s := s.bump .reAnchors
    let s := s.updRec r.tag fun q => { q with anchor := anchor }
    ((s.moveFlip r d).moveGateWindow r d).moveMark r d

/-! ### Removal -/

/-- An occupant whose record leaves becomes none (R13, R27). -/
def dropOccupant (occ : Option Tag) (t : Tag) : Option Tag := if occ = some t then none else occ

/-- The record of tag `t` leaves the track (R18, R27, R29). -/
def State.removeRec (s : State) (t : Tag) : State :=
  State.afterRemoval
    { s with
      track := s.track.filter (fun r => r.tag != t)
      iOcc := dropOccupant s.iOcc t
      rOcc := dropOccupant s.rOcc t }

/-- The arrival of a record in bin `b` (R27, R103, R129). -/
def State.arrival (s : State) (r : Record) (b : Bin) : State :=
  (((s.leaveRead r.tag).countArrival b r.tag).departMark r).removeRec r.tag

/-! ### Matching -/

/-- The checkpoint after a match at `x`: T after R, C after T, the bin cell after C (R5). -/
def nextCheckpoint (x : Cell) (r : Record) : Option Cell :=
  match x with
  | .r => some .t
  | .t => some .c
  | .c => r.bin.map binCell
  | _ => none

/-- A lead edge at `x` matched to record `r` (R7). -/
def State.matched (s : State) (x : Cell) (r : Record) : State :=
  match cellBin x with
  | some b => s.arrival r b
  | none =>
    let s := s.reAnchor r (cellPosition s.params.geo x)
    let s := s.updRec r.tag fun q => { q with next := nextCheckpoint x r }
    if x = .r then s.startRead r.tag else s

/-- The oldest record whose next checkpoint is `x` (R6). -/
def State.oldestAt (s : State) (x : Cell) : Option Record := s.track.find? fun r => r.next == some x

/-- The expected window of a record at `x` (R5). -/
def State.windowAt (s : State) (r : Record) (x : Cell) : Window :=
  expectedWindow r.anchor (cellPosition s.params.geo x) s.params.geo.tol

/-- A lead edge at a cell other than I in RUNNING or DRAINING (R6). -/
def State.matchEdge (s : State) (x : Cell) : State :=
  match s.oldestAt x with
  | none => s.strayJam x
  | some r => if (s.windowAt r x).begun s.pos then s.matched x r else s.strayJam x

/-! ### The I cell -/

/-- The arrival window of a grant (R42). -/
def State.arrivalWindow (s : State) (g : Pos) : Window :=
  { fromPos := g, toPos := some (posPlus g s.params.geo.arrivalLimit) }

/-- The next-tag counter after a creation: the first value from `t` on that no record carries, searched for at most `n`
values (R19). -/
def nextFreeTag : Nat → Tag → List Record → Tag
  | 0, t, _ => t
  | n + 1, t, l => if l.any (fun r => r.tag == t) then nextFreeTag n (t + 1) l else t

/-- The release state when a grant is used or lapses (R36). -/
def State.releaseAfterGrant (s : State) : ReleaseState := if s.releaseInFlight then .waiting else .none

/-- Record creation at a lead edge at I (R19, R20, R42). -/
def State.createRecord (s : State) : State :=
  let t := s.nextTag
  let track := s.track ++ [{ tag := t, stage := .inducting, next := some .r, anchor := s.pos }]
  let s := { s with
    track := track
    nextTag := nextFreeTag 33 (t + 1) track
    iOcc := some t
    release := s.releaseAfterGrant
    throughput := { s.throughput with count := min (s.throughput.count + 1) 65535 } }
  s.bump .inducted

/-- A lead edge at I in RUNNING or DRAINING (R42, R44). -/
def State.leadAtI (s : State) : State :=
  match s.release with
  | .granted g => if (s.arrivalWindow g).contains s.pos then s.createRecord else s.strayJam .i
  | _ => s.strayJam .i

/-! ### Edges -/

/-- A lead edge judged by the line state (R3). -/
def State.judgeLead (s : State) (x : Cell) : State :=
  match s.line with
  | .running => if x = .i then s.leadAtI else s.matchEdge x
  | .draining => if x = .i then s.leadAtI else s.matchEdge x
  | .idle => s.bump .strayEdges
  | .standby => s.bump .strayEdges
  | .jammed => s

/-- Cell `x` found BLOCKED: a lead edge if its last level is CLEAR (R3). -/
def State.lead (s : State) (x : Cell) : State :=
  if s.level x = .blocked then s else (s.setLevel x .blocked).judgeLead x

/-- The stage of a record at its trail edge at I (R21). -/
def afterTrail : Stage → Stage
  | .inducting => .toRead
  | st => st

/-- The trail edge at I of the record of tag `t`: induction length, stage, gap counter (R13, R21, R41). -/
def State.trailAtI (s : State) (t : Tag) : State :=
  { s with
    track := updTrack t (fun r =>
      { r with inductionLength := some (min (distance r.anchor s.pos) 65535), stage := afterTrail r.stage }) s.track
    gap := s.params.geo.minGap
    iOcc := none }

/-- A trail edge in RUNNING or DRAINING (R13). -/
def State.judgeTrail (s : State) (x : Cell) : State :=
  match x with
  | .i => match s.iOcc with | none => s | some t => s.trailAtI t
  | .r => match s.rOcc with | none => s | some t => { s with rOcc := none }.endRead t
  | _ => s

/-- Cell `x` found CLEAR: a trail edge if its last level is BLOCKED (R3). -/
def State.trail (s : State) (x : Cell) : State :=
  if s.level x = .clear then s
  else
    let s := s.setLevel x .clear
    if s.moving then s.judgeTrail x else s

/-! ### The encoder step -/

/-- A record is missing: its expected window at its next checkpoint has been passed (R11). -/
def State.missing (s : State) (r : Record) : Bool :=
  match r.next with
  | none => false
  | some x => (s.windowAt r x).passed s.pos

/-- The missing check of an encoder step (R11). -/
def State.missingCheck (s : State) : State :=
  if s.moving then
    match s.track.find? s.missing with
    | none => s
    | some r =>
      match r.next with
      | none => s
      | some x => s.jam .missing x
  else s

/-- The expiry of an outstanding grant, if the position has passed its arrival window (R43). -/
def State.expireGrant (s : State) : State :=
  match s.release with
  | .granted g =>
    if s.moving && (s.arrivalWindow g).passed s.pos then
      { (s.raise .feed .feedMiss).bump .feedMisses with release := s.releaseAfterGrant }
    else s
  | _ => s

/-- The wake from STANDBY (R51). -/
def State.wake (s : State) : State :=
  if s.line = .standby then { s with line := .idle, training := Vector.replicate 8 0 } else s

/-- The counters that move at every encoder step, in every line state (R1, R14, R41). -/
def State.advance (s : State) : State :=
  { s with pos := s.pos + 1, gap := s.gap - 1, stallTimer := stoppedTimer }

/-- What the blocks do at the new position once the missing check is made; `line` is the state the step's samples meet
(R46, R53, R62, R68, R84, R86, R92, R127). -/
def State.blocksStep (s : State) (line : LineState) (samples : Samples) : State :=
  ((((((s.retire).expireGrant).useSamples line samples).abandonIfDue).stepHeads).stepFlip).stepGates

/-- An encoder step (R1, R11, R51). -/
def State.encoder (s : State) (samples : Samples) : State :=
  let s := s.advance.missingCheck
  s.wake.blocksStep s.line samples

end Sys2Proof.Machine
end

