-- ==== Sys2Proof/Machine/TallyUnit.lean ====
section
/-! DEFINITION. Machine/TallyUnit.lean: the time base (R14, R15, R143, R144) and the throughput ring (R145). -/

namespace Sys2Proof.Machine

/-- A millisecond at the stall timer (R14). -/
def State.countStall (s : State) : State :=
  if s.timerRuns && !s.stallTimer.dormant then
    { s with stallTimer := { s.stallTimer with count := min (s.stallTimer.count + 1) 10000 } }
  else s

/-- The stall timer runs, is not dormant, and its count has come to the stall limit (R15). -/
def State.stallDue (s : State) : Bool :=
  s.timerRuns && !s.stallTimer.dormant && decide (s.params.stallLimit ≤ s.stallTimer.count)

/-- The expiry of the stall timer, if a time base expiry has brought its count to the stall limit (R15). -/
def State.expireStall (s : State) : State :=
  if s.stallDue then
    { ((s.raise .feed .stall).raise .super .stall).bump .stalls with
      stallTimer := { s.stallTimer with dormant := true } }
  else s

/-- A millisecond of the interval in progress (R143). -/
def State.countInterval (s : State) : State :=
  if s.intervalRuns then { s with throughput := { s.throughput with elapsed := s.throughput.elapsed + 1 } } else s

/-- The ring with the interval in progress closed into it (R144). -/
def Throughput.close (t : Throughput) : Throughput :=
  let place : Fin 16 := t.newest + 1
  { ring := t.ring.set place t.count, newest := place, elapsed := 0, count := 0 }

/-- The interval runs, and its elapsed time has come to Interval × 1000 (R144). -/
def State.intervalDue (s : State) : Bool :=
  s.intervalRuns && decide (s.params.interval * 1000 ≤ s.throughput.elapsed)

/-- The end of the interval, if a time base expiry has brought its elapsed time to Interval × 1000 (R144). -/
def State.endInterval (s : State) : State :=
  if s.intervalDue then
    { s with throughput := s.throughput.close }
  else s

/-- An expiry of the millisecond time base (R14, R15, R143, R144). -/
def State.timeBase (s : State) : State := s.countStall.expireStall.countInterval.endInterval

/-- The time base expiry that expires the stall timer (R15); nothing where the next expiry does not
(notes/assumptions/2.md). -/
def State.stallExpiry (s : State) : State := if s.countStall.stallDue then s.timeBase else s

/-- The time base expiry that ends the interval (R144); nothing where the next expiry does not
(notes/assumptions/2.md). -/
def State.intervalExpiry (s : State) : State := if s.countInterval.intervalDue then s.timeBase else s

/-- The entry `k` places before the newest (R145). -/
def Throughput.entry (t : Throughput) (k : Fin 16) : Nat := t.ring[t.newest - k]

/-- The 32 bytes of READ THROUGHPUT, newest entry first (R145). -/
def Throughput.bytes (t : Throughput) : List Byte := (List.finRange 16).flatMap fun k => bytes2 (t.entry k)

end Sys2Proof.Machine
end

