-- ==== Sys2Proof/Machine/LineControl.lean ====
section
/-! DEFINITION. Machine/LineControl.lean: line reset (R154) and power-on (R157), bulk removal (R28, R152), the steps that
come about inside other events (grant, DRAIN, SWAP TRAY and reference wait completions), and the summaries READ PIECE
and READ LINE form (R31 to R34, R158). -/

namespace Sys2Proof.Machine

/-! ### Bulk removal -/

/-- Every record removed, both occupants none, every bound 0 (R28). Purged is counted by the caller. -/
def State.emptyTrack (s : State) : State :=
  State.afterRemoval
    { s with
      track := [], iOcc := none, rOcc := none
      bins := tabulate (fun e => { e with bound := 0 }) s.bins }

/-- PURGE closes the open flip gate window of a HELD record at the Lp fixed at the jam (R85, R152). Only the last
reservation outlives the record. -/
def State.closeHeld (s : State) (r : Record) : State :=
  match r.gate, r.lp with
  | some g, some n => if g.win.toPos.isNone then s.closeFlip r n else s
  | _, _ => s

/-- Every open window of the held records closed (R85). -/
def State.closeAllHeld (s : State) : State := s.track.foldl State.closeHeld s

/-- The effect of PURGE in JAMMED (R28, R85, R152). -/
def State.purgeTrack (s : State) : State := ((s.closeAllHeld).bumpBy .purged s.track.length).emptyTrack

/-! ### Line reset and power-on -/

/-- A port after a line reset (R154): a command in flight ends with ABORTED; lines and flags clear; ring, mask and a held
access stay. -/
def Port.lineReset (p : Port) : Port :=
  { p with
    inFlight := none, xdone := false, xcall := false, flags := 0
    code := if p.busy then .aborted else p.code }

/-- A head after a line reset (R108). -/
def Head.lineReset (h : Head) : Head := emptiedHead h.state.afterJam

/-- A line reset (R154) with its cause. No notice is raised: the two counters are raised without theirs (R138). -/
def State.lineReset (s : State) (cause : ResetCause) : State :=
  let s := (s.addTally .purged s.track.length).addTally .lineResets 1
  { s with
    track := [], iOcc := none, rOcc := none
    stallTimer := stoppedTimer
    release := .none, gap := 0, training := Vector.replicate 8 0
    read := .idle
    lastRes := none
    headHigh := s.headHigh.lineReset, headLow := s.headLow.lineReset
    bins := tabulate BinEntry.lineReset s.bins
    gates := closedGates
    line := .idle, resetCause := cause
    portF := s.portF.lineReset, portP := s.portP.lineReset, portS := s.portS.lineReset }

/-- The reset input takes a level (R156): only a change to asserted is an assertion. -/
def State.resetInput (s : State) (asserted : Bool) : State :=
  let t := { s with resetLevel := asserted }
  if asserted && !s.resetLevel then t.lineReset .lineInput else t

/-- Power-on (R3, R156, R157): every block takes its power-on state, the cell levels and the reset input are taken as
they stand. The model's own fields are kept. -/
def State.powerOn (s : State) (cells : CellLevels) (resetAsserted : Bool) : State :=
  { State.reset with cells := cells, resetLevel := resetAsserted, freeCount := s.freeCount, pending := s.pending }

/-! ### Steps inside other events -/

/-- A DRAIN's condition: DRAINING with the track empty and the release state NONE (R49). -/
def State.drainDue (s : State) : Bool := s.line == .draining && s.track.isEmpty && s.release == .none

/-- A DRAIN in flight completes DONE, if there is one (R49). -/
def State.endDrain (s : State) : State := if s.flight .feed = some .drain then s.completeFlight .feed .done else s

/-- The line becomes IDLE at a DRAIN's condition (R49). -/
def State.finishDrain (s : State) : State :=
  if s.drainDue then { s with line := .idle, stallTimer := stoppedTimer }.endDrain else s

/-- A SWAP TRAY in flight completes once its bin's bound is 0 (R130). -/
def State.finishSwap (s : State) : State :=
  match s.flight .super with
  | some (.swapTray b) =>
    if (s.bin b).state = .swapping ∧ (s.bin b).bound = 0 then
      (s.setBin b { s.bin b with state := .withheld }).completeFlight .super .done
    else s
  | _ => s

/-- The command in flight at a port goes on as another stage of itself. -/
def State.setFlight (s : State) (x : PortId) (k : Flight) : State :=
  s.setPort x { s.port x with inFlight := (s.port x).inFlight.map fun f => { f with kind := k } }

/-- The block phase of a LOAD MARK (R118). -/
def Load.begin_ (l : Load) : Load := { l with phase := .block l.count 0 none }

/-- A LOAD MARK in its reference wait enters its block phase once no reservation references its target (R117). -/
def State.finishWait (s : State) : State :=
  match s.flight .print with
  | some (.loadMark l) =>
    match l.phase with
    | .wait => if s.bankReferenced l.slot l.bank then s else s.setFlight .print (.loadMark l.begin_)
    | .block _ _ _ => s
  | _ => s

/-- A grant, if the release state is WAITING and the permit is open (R39). -/
def State.judgeGrant (s : State) : State :=
  match s.release with
  | .waiting => if s.permit then { s with release := .granted s.pos }.completeFlight .feed .done else s
  | _ => s

/-- The completions an event brings about (R49, R117, R130). -/
def State.completions (s : State) : State := s.finishDrain.finishSwap.finishWait

/-! ### Summaries -/

/-- The length item of a piece summary (R34). -/
def State.pieceLength (s : State) (r : Record) : Nat :=
  match r.stage with
  | .inducting => 0
  | .toRead => r.inductionLength.getD 0
  | .reading => (s.stepCount r.tag).getD 0
  | .planned =>
    match r.lp with
    | some n => n
    | none => (s.stepCount r.tag).getD 0
  | .held =>
    match r.lp with
    | some n => n
    | none => r.inductionLength.getD 0

/-- The window open flag: a gate window whose to is open (R33). -/
def Record.windowOpen (r : Record) : Bool :=
  match r.gate with
  | none => false
  | some g => g.win.toPos.isNone

/-- The orientation and gate item (R33, 11.9). -/
def Record.flagsByte (r : Record) : Byte :=
  let inverted := match r.orient with | none => false | some o => o.facing == Facing.inv
  let needs := match r.orient with | none => false | some o => o.needsTurn
  let turned := match r.gate with | none => false | some g => g.setting == Setting.turn
  byteOf
    (r.orient.isSome.toNat + inverted.toNat * 2 + needs.toNat * 4 + turned.toNat * 8 + (r.conflict == some true).toNat * 16 +
      r.windowOpen.toNat * 32 + r.lp.isSome.toNat * 64)

/-- A code, or FFh while absent (R32, R158). -/
def orAbsent (n : Option Nat) : Byte :=
  match n with
  | none => 0xFF
  | some k => byteOf k

/-- The eight-byte summary of a record, in reading order (R32). -/
def State.pieceSummary (s : State) (r : Record) : List Byte :=
  [r.tag, byteOf (stageCode r.stage), orAbsent (r.cls.map fun c => (classIx c).val), r.flagsByte,
    orAbsent (r.bin.map fun b => (binIx b).val), byteOf (markCode r.mark)] ++ bytes2 (s.pieceLength r)

/-- The six bytes of READ LINE, in reading order (R158). -/
def State.lineBytes (s : State) : List Byte :=
  [byteOf (lineCode s.line), byteOf s.track.length, byteOf (resetCauseCode s.resetCause),
    byteOf (jamCauseCode s.jamCause), orAbsent (s.jamCell.map fun x => (cellIx x).val), byteOf (releaseCode s.release)]

end Sys2Proof.Machine
end

