-- ==== Sys2Proof/Machine/Commands.lean ====
section
/-! DEFINITION. Machine/Commands.lean: what each command of the command table does once its port has taken it (R161):
its operands taken from the ring (R160), its checks in the manual's order, its effect and its completion. -/

namespace Sys2Proof.Machine

/-- A two-byte operand, most significant byte first, below the top byte (R160, R167). -/
def State.operand2 (s : State) (x : PortId) : Nat := s.operand x * 256 + (s.dropOperand x).operand x

/-! ### Every port (R164, R166) -/

/-- ACK NOTICE (R166): the flags are pushed, then those in the mask clear. -/
def cmdAckNotice (x : PortId) (call : Bool) (s : State) : State :=
  let mask := ringTop (s.port x).ring
  let s := (s.dropOperand x).push x [(s.port x).flags]
  let s := s.setPort x { s.port x with flags := (s.port x).flags &&& ~~~mask }
  s.complete x call .done

/-- SET NOTICE MASK (R166). -/
def cmdSetNoticeMask (x : PortId) (call : Bool) (s : State) : State :=
  let mask := ringTop (s.port x).ring
  let s := s.dropOperand x
  let s := s.setPort x { s.port x with mask := mask }
  s.complete x call .done

/-- The effect ABORT has on the command it ends (R40, R49, R119, R131, R141). -/
def abortEffect (k : Flight) (s : State) : State :=
  match k with
  | .release =>
    match s.release with
    | .waiting => { s with release := .none }
    | _ => s
  | .swapTray b => s.endSwap b
  | .drain => s
  | .loadMark _ => s
  | .readTallies _ _ _ _ => s
  | .readBytes _ => s

/-- ABORT (R164). -/
def cmdAbort (x : PortId) (call : Bool) (s : State) : State :=
  match s.flight x with
  | none => s.complete x call .done
  | some k => (abortEffect k s).complete x call .aborted

/-! ### The Feed port (R37, R48 to R50) -/

/-- START (R48). -/
def cmdStart (x : PortId) (call : Bool) (s : State) : State :=
  match s.line with
  | .idle => { s with line := .running }.complete x call .done
  | .standby => { s with line := .running, training := Vector.replicate 8 0 }.complete x call .done
  | .running => s.complete x call .wrongState
  | .draining => s.complete x call .wrongState
  | .jammed => s.complete x call .wrongState

/-- The release state when a RELEASE is taken (R37). -/
def ReleaseState.ask : ReleaseState → ReleaseState
  | .none => .waiting
  | r => r

/-- RELEASE (R37): in flight until the grant, which is judged as the event ends (R39). -/
def cmdRelease (x : PortId) (call : Bool) (s : State) : State :=
  if s.line = .running then { s with release := s.release.ask }.takeOff x call .release
  else s.complete x call .wrongState

/-- DRAIN (R49): in flight until the track is empty and the release state NONE, which may be at once. -/
def cmdDrain (x : PortId) (call : Bool) (s : State) : State :=
  if s.line = .running then
    if s.track.isEmpty && s.release == .none then
      { s with line := .idle, stallTimer := stoppedTimer }.complete x call .done
    else { s with line := .draining }.takeOff x call .drain
  else s.complete x call .wrongState

/-- STANDBY (R50). -/
def cmdStandby (x : PortId) (call : Bool) (s : State) : State :=
  if s.line = .idle then { s with line := .standby }.complete x call .done else s.complete x call .wrongState

/-! ### The Print port (R104, R105, R110, R115, R116) -/

/-- Step 2 and 3 of the take of LOAD MARK: the target fixed and cleared, and the block phase or the wait entered
(R116). -/
def State.beginLoad (s : State) (x : PortId) (call : Bool) (n : Fin 4) (count : Nat) (clamped : Bool) : State :=
  let m := s.store[n]
  let target := m.live.rev
  let banks := m.banks.set target { m.banks[target] with count := 0 }
  let s := s.setSlot n { m with banks := banks, ready := false }
  let l : Load := { slot := n, bank := target, count := count, clamped := clamped, phase := .wait }
  s.takeOff x call (.loadMark (if s.bankReferenced n target then l else l.begin_))

/-- LOAD MARK (R115). -/
def cmdLoadMark (x : PortId) (call : Bool) (s : State) : State :=
  let slot := s.operand x
  let count := (s.dropOperand x).operand x
  let s := (s.dropOperand x).dropOperand x
  if h : slot < 4 then s.beginLoad x call ⟨slot, h⟩ (clamp (1, 128) count) (clamp (1, 128) count != count)
  else s.complete x call .badOperand

/-- HEAD ONLINE on a head (R104): an OFFLINE head becomes FREE with empty slots. -/
def State.takeOnline (s : State) (h : HeadId) : State :=
  if (s.head h).state = .offline then s.setHead h (emptiedHead .free) else s

/-- HEAD ONLINE (R104). -/
def cmdHeadOnline (x : PortId) (call : Bool) (s : State) : State :=
  let n := s.operand x
  let s := s.dropOperand x
  match headOfNat n with
  | none => s.complete x call .badOperand
  | some h => (s.takeOnline h).complete x call .done

/-- HEAD OFFLINE (R105). -/
def cmdHeadOffline (x : PortId) (call : Bool) (s : State) : State :=
  let n := s.operand x
  let s := s.dropOperand x
  match headOfNat n with
  | none => s.complete x call .badOperand
  | some h => (s.takeOffline h).complete x call .done

/-- The two bytes READ HEADS reports of a head (R110). -/
def Head.bytes (h : Head) : List Byte := [byteOf (headStateCode h.state), byteOf h.held]

/-- READ HEADS (R110). -/
def cmdReadHeads (x : PortId) (call : Bool) (s : State) : State :=
  (s.push x (s.headHigh.bytes ++ s.headLow.bytes)).complete x call .done

/-! ### Parameters and the sort plan (R123, R167 to R169) -/

/-- The geometry group is set in IDLE and STANDBY alone (R16, R168). -/
def State.atRest (s : State) : Bool := s.line == .idle || s.line == .standby

/-- Step 6 of SET PARAMETER: the parameter takes a value (R133, R167). -/
def State.writeParam (s : State) (p : ParamId) (v : Nat) : State :=
  match p with
  | .geo g => { s with params := { s.params with geo := s.params.geo.set g v } }
  | .det k d => { s with params := s.params.setDet k ((s.params.det k).set d v) }
  | .mPre => { s with params := { s.params with mPre := v } }
  | .recovery => { s with params := { s.params with recovery := v } }
  | .stallLimit => { s with params := { s.params with stallLimit := v } }
  | .interval => { s with params := { s.params with interval := v } }
  | .capacity b => s.setCapacity b v

/-- Step 5 of SET PARAMETER: a geometry value tested with the rest of the geometry (R168). -/
def State.consistentWith (s : State) (p : ParamId) (v : Nat) : Bool :=
  match p with
  | .geo g => (s.params.geo.set g v).consistent
  | _ => true

/-- A parameter of the cancel group (R109). -/
def isCancelParam : ParamId → Bool
  | .mPre => true
  | .recovery => true
  | _ => false

/-- A parameter of the geometry group (11.9). -/
def isGeoParam : ParamId → Bool
  | .geo _ => true
  | _ => false

/-- Steps 2 to 6 of SET PARAMETER for a known parameter (R167). -/
def State.setParam (s : State) (x : PortId) (call : Bool) (p : ParamId) (v : Nat) : State :=
  let w := s.clampParam p v
  if x = .print ∧ isCancelParam p = false then s.complete x call .notPermitted
  else if isGeoParam p && !s.atRest then s.complete x call .wrongState
  else if s.consistentWith p w then (s.writeParam p w).complete x call (if w = v then .done else .clamped)
  else s.complete x call .badConfig

/-- SET PARAMETER (R167). -/
def cmdSetParameter (x : PortId) (call : Bool) (s : State) : State :=
  let id := s.operand x
  let s := s.dropOperand x
  let v := s.operand2 x
  let s := (s.dropOperand x).dropOperand x
  match paramOfNat id with
  | none => s.complete x call .badOperand
  | some p => s.setParam x call p v

/-- READ PARAMETER (R169). -/
def cmdReadParameter (x : PortId) (call : Bool) (s : State) : State :=
  let id := s.operand x
  let s := s.dropOperand x
  match paramOfNat id with
  | none => s.complete x call .badOperand
  | some p => (s.push x (bytes2 (s.readParam p))).complete x call .done

/-- SET SORT ENTRY (R123): class, primary, alternate and cancel-and-slot byte from the top. -/
def cmdSetSortEntry (x : PortId) (call : Bool) (s : State) : State :=
  let s1 := s.dropOperand x
  let s2 := s1.dropOperand x
  let s3 := s2.dropOperand x
  let s4 := s3.dropOperand x
  match classOfNat (s.operand x), binOfNat (s1.operand x), binOfNat (s2.operand x) with
  | some k, some p, some a =>
    let b := ringTop (s3.port x).ring
    { s4 with
      sort := s4.sort.set (classIx k)
        { primary := p, alternate := a, cancel := b.msb, slot := slotOfByte b } }.complete x call .done
  | _, _, _ => s4.complete x call .badOperand

/-- READ SORT ENTRY (R123). -/
def cmdReadSortEntry (x : PortId) (call : Bool) (s : State) : State :=
  let n := s.operand x
  let s := s.dropOperand x
  match classOfNat n with
  | none => s.complete x call .badOperand
  | some k =>
    let e := s.sortEntry k
    (s.push x [byteOf (binIx e.primary), byteOf (binIx e.alternate), cancelSlotByte e.cancel e.slot]).complete x call
      .done

/-! ### Tallies and throughput (R139, R140, R142, R145) -/

/-- SNAPSHOT TALLIES (R139). -/
def cmdSnapshotTallies (x : PortId) (call : Bool) (s : State) : State :=
  { s with snapshot := s.live }.complete x call .done

/-- READ TALLIES (R140). -/
def cmdReadTallies (x : PortId) (call : Bool) (s : State) : State :=
  let first := s.operand x
  let count := (s.dropOperand x).operand x
  let s := (s.dropOperand x).dropOperand x
  if first ≤ 31 then
    let n := clamp (1, 32 - first) count
    s.takeOff x call (.readTallies n first 0 (n != count))
  else s.complete x call .badOperand

/-- CLEAR TALLIES (R142). -/
def cmdClearTallies (x : PortId) (call : Bool) (s : State) : State :=
  if s.atRest then
    { s with live := Vector.replicate 32 0, throughput := freshThroughput }.complete x call .done
  else s.complete x call .wrongState

/-- READ THROUGHPUT (R145). -/
def cmdReadThroughput (x : PortId) (call : Bool) (s : State) : State := s.takeOff x call (.readBytes s.throughput.bytes)

/-! ### Trays (R130, R132, R134) -/

/-- SWAP TRAY for a bin (R130). -/
def State.swap (s : State) (x : PortId) (call : Bool) (b : Bin) : State :=
  if (s.bin b).state = .swapping ∨ (s.bin b).state = .withheld then s.complete x call .targetBusy
  else if (s.bin b).bound = 0 then (s.setBin b { s.bin b with state := .withheld }).complete x call .done
  else (s.setBin b { s.bin b with state := .swapping }).takeOff x call (.swapTray b)

/-- SWAP TRAY (R130). -/
def cmdSwapTray (x : PortId) (call : Bool) (s : State) : State :=
  let n := s.operand x
  let s := s.dropOperand x
  match binOfNat n with
  | none => s.complete x call .badOperand
  | some b => s.swap x call b

/-- TRAY READY (R132). -/
def cmdTrayReady (x : PortId) (call : Bool) (s : State) : State :=
  let n := s.operand x
  let s := s.dropOperand x
  match binOfNat n with
  | none => s.complete x call .badOperand
  | some b =>
    if (s.bin b).state = .withheld then
      (s.setBin b { s.bin b with state := .available, count := 0 }).complete x call .done
    else s.complete x call .wrongState

/-- READ BINS (R134). -/
def cmdReadBins (x : PortId) (call : Bool) (s : State) : State := s.takeOff x call (.readBytes s.binBytes)

/-! ### The track and the line (R31, R152, R153, R155, R158) -/

/-- READ PIECE (R31). -/
def cmdReadPiece (x : PortId) (call : Bool) (s : State) : State :=
  let t := ringTop (s.port x).ring
  let s := s.dropOperand x
  match s.findRec t with
  | none => s.complete x call .notFound
  | some r => (s.push x (s.pieceSummary r)).complete x call .done

/-- READ LINE (R158). -/
def cmdReadLine (x : PortId) (call : Bool) (s : State) : State := (s.push x s.lineBytes).complete x call .done

/-- PURGE (R152). -/
def cmdPurge (x : PortId) (call : Bool) (s : State) : State :=
  if s.line = .jammed then s.purgeTrack.complete x call .done else s.complete x call .wrongState

/-- RESUME (R153). -/
def cmdResume (x : PortId) (call : Bool) (s : State) : State :=
  if s.line = .jammed ∧ s.track = [] then { s with line := .idle }.complete x call .done
  else s.complete x call .wrongState

/-- LINE RESET (R155). -/
def cmdLineReset (x : PortId) (call : Bool) (s : State) : State := (s.lineReset .lineCommand).complete x call .done

/-- The command of the table, taken at a port that lists it (R161). -/
def runCmd (c : Cmd) (x : PortId) (call : Bool) (s : State) : State :=
  match c with
  | .ackNotice => cmdAckNotice x call s
  | .setNoticeMask => cmdSetNoticeMask x call s
  | .abort => cmdAbort x call s
  | .start => cmdStart x call s
  | .release => cmdRelease x call s
  | .drain => cmdDrain x call s
  | .standby => cmdStandby x call s
  | .loadMark => cmdLoadMark x call s
  | .headOnline => cmdHeadOnline x call s
  | .headOffline => cmdHeadOffline x call s
  | .readHeads => cmdReadHeads x call s
  | .setParameter => cmdSetParameter x call s
  | .readParameter => cmdReadParameter x call s
  | .setSortEntry => cmdSetSortEntry x call s
  | .readSortEntry => cmdReadSortEntry x call s
  | .snapshotTallies => cmdSnapshotTallies x call s
  | .readTallies => cmdReadTallies x call s
  | .clearTallies => cmdClearTallies x call s
  | .readThroughput => cmdReadThroughput x call s
  | .swapTray => cmdSwapTray x call s
  | .trayReady => cmdTrayReady x call s
  | .readBins => cmdReadBins x call s
  | .readPiece => cmdReadPiece x call s
  | .readLine => cmdReadLine x call s
  | .purge => cmdPurge x call s
  | .resume => cmdResume x call s
  | .lineReset => cmdLineReset x call s

end Sys2Proof.Machine
end

