-- ==== Sys2Proof/Machine/Ports.lean ====
section
/-! DEFINITION. Machine/Ports.lean: an access at a port (R159, R161): taken or held, ring or block phase (R160, R162, R118,
R141), status read (R163), command write; and what follows an event: completions, held accesses, the grant. -/

namespace Sys2Proof.Machine

/-! ### Data accesses -/

/-- Byte `k` of the snapshot counter of an index, most significant first (R141). -/
def State.snapshotByte (s : State) (i k : Nat) : Byte := byte4 ((s.snapshot[i]?).getD 0) k

/-- The byte a port drives on its data lines. -/
def State.drive (s : State) (x : PortId) (b : Byte) : State := s.setPort x { s.port x with out := b }

/-- READ TALLIES after a byte has been read (R141). -/
def State.nextTallyByte (s : State) (x : PortId) (remaining next pos : Nat) (clamped : Bool) : State :=
  if pos < 3 then s.setFlight x (.readTallies remaining next (pos + 1) clamped)
  else if remaining ≤ 1 then s.completeFlight x (if clamped then .clamped else .done)
  else s.setFlight x (.readTallies (remaining - 1) (next + 1) 0 clamped)

/-- READ THROUGHPUT or READ BINS after a byte has been read (R134, R145). -/
def State.nextBlockByte (s : State) (x : PortId) (rest : List Byte) : State :=
  match rest with
  | [] => s.completeFlight x .done
  | _ :: _ => s.setFlight x (.readBytes rest)

/-- A data read in a block phase (R118, R141, R162). -/
def State.blockRead (s : State) (x : PortId) : State :=
  match s.flight x with
  | some (.readTallies remaining next pos clamped) =>
    (s.drive x (s.snapshotByte next pos)).nextTallyByte x remaining next pos clamped
  | some (.readBytes bytes) => (s.drive x (bytes.headD 0)).nextBlockByte x bytes.tail
  | _ => s.drive x 0

/-- A column of 16 dots written into a bank (R118). -/
def State.writeColumn (s : State) (n : Fin 4) (b : Fin 2) (i : Nat) (dots : Dots) : State :=
  let m := s.store[n]
  let k := m.banks[b]
  s.setSlot n { m with banks := m.banks.set b { k with columns := k.columns.setIfInBounds i dots } }

/-- The completing write of LOAD MARK: count set, shadow ready, command completed (R118). -/
def State.endLoad (s : State) (x : PortId) (l : Load) : State :=
  let m := s.store[l.slot]
  let s := s.setSlot l.slot
    { m with banks := m.banks.set l.bank { m.banks[l.bank] with count := l.count }, ready := true }
  s.completeFlight x (if l.clamped then .clamped else .done)

/-- A data write in the LOAD MARK block phase: the first byte of a pair is held, the second writes the column (R118). -/
def State.loadByte (s : State) (x : PortId) (l : Load) (remaining next : Nat) (first : Option Byte) (b : Byte) :
    State :=
  match first with
  | none => s.setFlight x (.loadMark { l with phase := .block remaining next (some b) })
  | some hi =>
    let s := s.writeColumn l.slot l.bank next (hi ++ b)
    if remaining ≤ 1 then s.endLoad x l
    else s.setFlight x (.loadMark { l with phase := .block (remaining - 1) (next + 1) none })

/-- A data write in a block phase (R118, R162): the read blocks discard it. -/
def State.blockWrite (s : State) (x : PortId) (b : Byte) : State :=
  match s.flight x with
  | some (.loadMark l) =>
    match l.phase with
    | .block remaining next first => s.loadByte x l remaining next first b
    | .wait => s
  | _ => s

/-- A data write outside a block phase (R160). -/
def State.ringWrite (s : State) (x : PortId) (b : Byte) : State :=
  s.setPort x { s.port x with ring := ringPush b (s.port x).ring }

/-- A data read outside a block phase (R160). -/
def State.ringRead (s : State) (x : PortId) : State :=
  s.setPort x { s.port x with ring := ringRotate (s.port x).ring, out := ringTop (s.port x).ring }

/-! ### Taking an access -/

/-- A command write taken at a port that may take it (R161). -/
def State.takeCommand (s : State) (x : PortId) (b : Byte) : State :=
  match cmdOfByte b with
  | none => s.complete x (callOfByte b) .unknownCommand
  | some c =>
    if allowedAt c x then runCmd c x (callOfByte b) s else s.complete x (callOfByte b) .notPermitted

/-- The port takes an access now (R161): a status read always, a command write while not BUSY or when it is ABORT, a data
access while not BUSY or in a block phase. -/
def Port.takes (p : Port) (a : Access) : Bool :=
  match a with
  | .statusRead => true
  | .commandWrite b => !p.busy || cmdOfByte b == some .abort
  | .dataWrite _ => !p.busy || p.block
  | .dataRead => !p.busy || p.block

/-- An access that is taken (R160 to R163): it clears xDONE, then acts by its kind. -/
def State.takeAccess (s : State) (x : PortId) (a : Access) : State :=
  let s := s.setPort x { s.port x with xdone := false }
  match a with
  | .dataWrite b => if (s.port x).block then s.blockWrite x b else s.ringWrite x b
  | .dataRead => if (s.port x).block then s.blockRead x else s.ringRead x
  | .statusRead => s.drive x ((s.port x).statusByte (s.line == .jammed))
  | .commandWrite b => s.takeCommand x b

/-- An access at a port: taken or held (R159, R161). While an access is held no other can be made at the port
(notes/assumptions/6.md). -/
def State.access (s : State) (x : PortId) (a : Access) : State :=
  match (s.port x).held with
  | some _ => s
  | none => if (s.port x).takes a then s.takeAccess x a else s.setPort x { s.port x with held := some a }

/-! ### What follows an event -/

/-- The port holds an access it would take now (R161). -/
def Port.ready (p : Port) : Bool :=
  match p.held with
  | none => false
  | some a => p.takes a

/-- The held access of a port, taken (R161). -/
def State.takeHeld (s : State) (x : PortId) : State :=
  match (s.port x).held with
  | none => s
  | some a => (s.setPort x { s.port x with held := none }).takeAccess x a

/-- The ports whose held access can be taken. -/
def State.readyPorts (s : State) : List PortId := [.feed, .print, .super].filter fun x => (s.port x).ready

/-- One held access taken, with the completions it brings about. Between several ports the order is free
(notes/assumptions/8.md). -/
def State.takeOneHeld (s : State) : State :=
  match s.readyPorts with
  | [] => s
  | [x] => (s.takeHeld x).completions
  | x :: l =>
    let y := (x :: l).getD (Config.heldOrder s.freeCount % (x :: l).length) x
    ({ s with freeCount := s.freeCount + 1 }.takeHeld y).completions

/-- Every held access that can be taken, taken: at most one is held at each of the three ports (R159, R161). -/
def State.takeAllHeld (s : State) : State := s.takeOneHeld.takeOneHeld.takeOneHeld

/-- What comes about within an event after its own effect (R39, R49, R117, R130, R161): completions, the held accesses
behind them, the grant judged as the event leaves the state, and the access held behind the granted RELEASE. -/
def State.settle (s : State) : State := s.completions.takeAllHeld.judgeGrant.takeAllHeld

/-- An event: its own effect, then what it brings about. -/
def State.event (s : State) (f : State → State) : Result := .next (f s).settle

/-- A command of the table written at a port (R161). -/
def State.command (s : State) (c : Cmd) (x : PortId) (call : Bool) : Result :=
  s.event fun s => s.access x (.commandWrite (cmdByte c call))

end Sys2Proof.Machine
end

