-- ==== Sys2Proof/Machine/Events.lean ====
section
/-! DEFINITION. Machine/Events.lean: the meanings of the rows that are no station command: resets, transport and time
events, the steps inside other events, accesses and line pulses at the ports. -/

namespace Sys2Proof.Machine

/-- POWER_ON (R157). -/
def execPowerOn (cells : CellLevels) (resetAsserted : Bool) (s : State) : Result :=
  s.event fun s => s.powerOn cells resetAsserted

/-- RESET_INPUT (R154, R156). -/
def execResetInput (asserted : Bool) (s : State) : Result := s.event fun s => s.resetInput asserted

/-- ENCODER_STEP (R1). -/
def execEncoderStep (samples : Samples) (s : State) : Result := s.event fun s => s.encoder samples

/-- LEAD_EDGE (R3). -/
def execLeadEdge (x : Cell) (s : State) : Result := s.event fun s => s.lead x

/-- TRAIL_EDGE (R13). -/
def execTrailEdge (x : Cell) (s : State) : Result := s.event fun s => s.trail x

/-- TIME_BASE_EXPIRY (R143). -/
def execTimeBaseExpiry (s : State) : Result := s.event State.timeBase

/-! The next eight rows come about within other events, where the same operations run (notes/assumptions/2.md). Sent as
commands they act where their condition holds, and leave the state as it is where it does not. -/

/-- STALL (R15): the TIME_BASE_EXPIRY that brings the count to the stall limit. -/
def execStall (s : State) : Result := s.event State.stallExpiry

/-- INTERVAL_END (R144): the TIME_BASE_EXPIRY that brings the elapsed time to Interval × 1000. -/
def execIntervalEnd (s : State) : Result := s.event State.intervalExpiry

/-- FEED_MISS (R43): also within ENCODER_STEP. -/
def execFeedMiss (s : State) : Result := s.event State.expireGrant

/-- GRANT (R39): also at the end of every event. -/
def execGrant (s : State) : Result := s.event State.judgeGrant

/-- ABANDONMENT (R68): also within ENCODER_STEP. -/
def execAbandonment (s : State) : Result := s.event State.abandonIfDue

/-- DRAIN_COMPLETE (R49): also within every event. -/
def execDrainComplete (s : State) : Result := s.event State.finishDrain

/-- SWAP_COMPLETE (R130): also within every event. -/
def execSwapComplete (s : State) : Result := s.event State.finishSwap

/-- REFERENCE_WAIT_END (R117): also within every event. -/
def execReferenceWaitEnd (s : State) : Result := s.event State.finishWait

/-- DATA_WRITE (R160). -/
def execDataWrite (x : PortId) (b : Byte) (s : State) : Result := s.event fun s => s.access x (.dataWrite b)

/-- DATA_READ (R160). -/
def execDataRead (x : PortId) (s : State) : Result := s.event fun s => s.access x .dataRead

/-- BLOCK_DATA_READ (R162). -/
def execBlockDataRead (x : PortId) (a : DataAccess) (s : State) : Result := s.event fun s => s.access x a.toAccess

/-- COLUMN_PAIR_WRITE (R118). -/
def execColumnPairWrite (b : Byte) (s : State) : Result := s.event fun s => s.access .print (.dataWrite b)

/-- STATUS_READ (R163). -/
def execStatusRead (x : PortId) (s : State) : Result := s.event fun s => s.access x .statusRead

/-- A pulse on xDCLR (R163). -/
def State.clearDone (s : State) (x : PortId) : State := s.setPort x { s.port x with xdone := false }

/-- A pulse on xCCLR (R163). -/
def State.clearCall (s : State) (x : PortId) : State := s.setPort x { s.port x with xcall := false }

/-- XDCLR_PULSE (R163): it acts on its line alone (R159). -/
def execXdclrPulse (x : PortId) (s : State) : Result := s.event fun s => s.clearDone x

/-- XCCLR_PULSE (R163): it acts on its line alone (R159). -/
def execXcclrPulse (x : PortId) (s : State) : Result := s.event fun s => s.clearCall x

/-- UNKNOWN_COMMAND (R161). -/
def execUnknownCommand (x : PortId) (b : Byte) (s : State) : Result := s.event fun s => s.access x (.commandWrite b)

/-- ACCESS_HELD (R161). -/
def execAccessHeld (x : PortId) (a : Access) (s : State) : Result := s.event fun s => s.access x a

end Sys2Proof.Machine
end

