-- ==== Sys2Proof/Machine/Station.lean ====
section
/-! DEFINITION. Machine/Station.lean: the meanings of the station commands: each is its command byte written at port `x`
(R161), which the port refuses, holds, or takes with the effect Machine/Commands.lean gives it. -/

namespace Sys2Proof.Machine

/-- ACK_NOTICE (R166). -/
def execAckNotice (x : PortId) (call : Bool) (s : State) : Result := s.command .ackNotice x call

/-- SET_NOTICE_MASK (R166). -/
def execSetNoticeMask (x : PortId) (call : Bool) (s : State) : Result := s.command .setNoticeMask x call

/-- ABORT (R164). -/
def execAbort (x : PortId) (call : Bool) (s : State) : Result := s.command .abort x call

/-- START (R48). -/
def execStart (x : PortId) (call : Bool) (s : State) : Result := s.command .start x call

/-- RELEASE (R37). -/
def execRelease (x : PortId) (call : Bool) (s : State) : Result := s.command .release x call

/-- DRAIN (R49). -/
def execDrain (x : PortId) (call : Bool) (s : State) : Result := s.command .drain x call

/-- STANDBY (R50). -/
def execStandby (x : PortId) (call : Bool) (s : State) : Result := s.command .standby x call

/-- LOAD_MARK (R115). -/
def execLoadMark (x : PortId) (call : Bool) (s : State) : Result := s.command .loadMark x call

/-- HEAD_ONLINE (R104). -/
def execHeadOnline (x : PortId) (call : Bool) (s : State) : Result := s.command .headOnline x call

/-- HEAD_OFFLINE (R105). -/
def execHeadOffline (x : PortId) (call : Bool) (s : State) : Result := s.command .headOffline x call

/-- READ_HEADS (R110). -/
def execReadHeads (x : PortId) (call : Bool) (s : State) : Result := s.command .readHeads x call

/-- SET_PARAMETER (R167). -/
def execSetParameter (x : PortId) (call : Bool) (s : State) : Result := s.command .setParameter x call

/-- READ_PARAMETER (R169). -/
def execReadParameter (x : PortId) (call : Bool) (s : State) : Result := s.command .readParameter x call

/-- SET_SORT_ENTRY (R123). -/
def execSetSortEntry (x : PortId) (call : Bool) (s : State) : Result := s.command .setSortEntry x call

/-- READ_SORT_ENTRY (R123). -/
def execReadSortEntry (x : PortId) (call : Bool) (s : State) : Result := s.command .readSortEntry x call

/-- SNAPSHOT_TALLIES (R139). -/
def execSnapshotTallies (x : PortId) (call : Bool) (s : State) : Result := s.command .snapshotTallies x call

/-- READ_TALLIES (R140). -/
def execReadTallies (x : PortId) (call : Bool) (s : State) : Result := s.command .readTallies x call

/-- CLEAR_TALLIES (R142). -/
def execClearTallies (x : PortId) (call : Bool) (s : State) : Result := s.command .clearTallies x call

/-- READ_THROUGHPUT (R145). -/
def execReadThroughput (x : PortId) (call : Bool) (s : State) : Result := s.command .readThroughput x call

/-- SWAP_TRAY (R130). -/
def execSwapTray (x : PortId) (call : Bool) (s : State) : Result := s.command .swapTray x call

/-- TRAY_READY (R132). -/
def execTrayReady (x : PortId) (call : Bool) (s : State) : Result := s.command .trayReady x call

/-- READ_BINS (R134). -/
def execReadBins (x : PortId) (call : Bool) (s : State) : Result := s.command .readBins x call

/-- READ_PIECE (R31). -/
def execReadPiece (x : PortId) (call : Bool) (s : State) : Result := s.command .readPiece x call

/-- READ_LINE (R158). -/
def execReadLine (x : PortId) (call : Bool) (s : State) : Result := s.command .readLine x call

/-- PURGE (R152). -/
def execPurge (x : PortId) (call : Bool) (s : State) : Result := s.command .purge x call

/-- RESUME (R153). -/
def execResume (x : PortId) (call : Bool) (s : State) : Result := s.command .resume x call

/-- LINE_RESET (R155). -/
def execLineReset (x : PortId) (call : Bool) (s : State) : Result := s.command .lineReset x call

end Sys2Proof.Machine
end

