-- ==== Sys2Proof/Machine/Dispatch.lean ====
section
/-! DEFINITION. Machine/Dispatch.lean: one arm per command. -/

namespace Sys2Proof.Machine

/-- The effect of a command on everything but the queue. -/
def exec (i : Instr) (s : State) : Host.Outcome State Fault Refusal :=
  match i with
  | .powerOn cells resetAsserted => Sys2Proof.Machine.execPowerOn cells resetAsserted s
  | .resetInput asserted => Sys2Proof.Machine.execResetInput asserted s
  | .encoderStep samples => Sys2Proof.Machine.execEncoderStep samples s
  | .leadEdge x => Sys2Proof.Machine.execLeadEdge x s
  | .trailEdge x => Sys2Proof.Machine.execTrailEdge x s
  | .timeBaseExpiry => Sys2Proof.Machine.execTimeBaseExpiry s
  | .stall => Sys2Proof.Machine.execStall s
  | .intervalEnd => Sys2Proof.Machine.execIntervalEnd s
  | .feedMiss => Sys2Proof.Machine.execFeedMiss s
  | .grant => Sys2Proof.Machine.execGrant s
  | .abandonment => Sys2Proof.Machine.execAbandonment s
  | .drainComplete => Sys2Proof.Machine.execDrainComplete s
  | .swapComplete => Sys2Proof.Machine.execSwapComplete s
  | .referenceWaitEnd => Sys2Proof.Machine.execReferenceWaitEnd s
  | .dataWrite x b => Sys2Proof.Machine.execDataWrite x b s
  | .dataRead x => Sys2Proof.Machine.execDataRead x s
  | .blockDataRead x a => Sys2Proof.Machine.execBlockDataRead x a s
  | .columnPairWrite b => Sys2Proof.Machine.execColumnPairWrite b s
  | .statusRead x => Sys2Proof.Machine.execStatusRead x s
  | .xdclrPulse x => Sys2Proof.Machine.execXdclrPulse x s
  | .xcclrPulse x => Sys2Proof.Machine.execXcclrPulse x s
  | .unknownCommand x b => Sys2Proof.Machine.execUnknownCommand x b s
  | .ackNotice x call => Sys2Proof.Machine.execAckNotice x call s
  | .setNoticeMask x call => Sys2Proof.Machine.execSetNoticeMask x call s
  | .abort x call => Sys2Proof.Machine.execAbort x call s
  | .start x call => Sys2Proof.Machine.execStart x call s
  | .release x call => Sys2Proof.Machine.execRelease x call s
  | .drain x call => Sys2Proof.Machine.execDrain x call s
  | .standby x call => Sys2Proof.Machine.execStandby x call s
  | .loadMark x call => Sys2Proof.Machine.execLoadMark x call s
  | .headOnline x call => Sys2Proof.Machine.execHeadOnline x call s
  | .headOffline x call => Sys2Proof.Machine.execHeadOffline x call s
  | .readHeads x call => Sys2Proof.Machine.execReadHeads x call s
  | .setParameter x call => Sys2Proof.Machine.execSetParameter x call s
  | .readParameter x call => Sys2Proof.Machine.execReadParameter x call s
  | .setSortEntry x call => Sys2Proof.Machine.execSetSortEntry x call s
  | .readSortEntry x call => Sys2Proof.Machine.execReadSortEntry x call s
  | .snapshotTallies x call => Sys2Proof.Machine.execSnapshotTallies x call s
  | .readTallies x call => Sys2Proof.Machine.execReadTallies x call s
  | .clearTallies x call => Sys2Proof.Machine.execClearTallies x call s
  | .readThroughput x call => Sys2Proof.Machine.execReadThroughput x call s
  | .swapTray x call => Sys2Proof.Machine.execSwapTray x call s
  | .trayReady x call => Sys2Proof.Machine.execTrayReady x call s
  | .readBins x call => Sys2Proof.Machine.execReadBins x call s
  | .readPiece x call => Sys2Proof.Machine.execReadPiece x call s
  | .readLine x call => Sys2Proof.Machine.execReadLine x call s
  | .purge x call => Sys2Proof.Machine.execPurge x call s
  | .resume x call => Sys2Proof.Machine.execResume x call s
  | .lineReset x call => Sys2Proof.Machine.execLineReset x call s
  | .accessHeld x a => Sys2Proof.Machine.execAccessHeld x a s

end Sys2Proof.Machine
end

