-- ==== Sys2Proof/Certificates/Slice0/Obligations.lean ====
section
/-! DEFINITION. Certificates/Slice0/Obligations.lean: the statements for the provers, each from the rules its docstring
names. The words they share come first (namespace Sys2Proof.Claims). `State.settle` stands in most conclusions: it is what
an event brings about after its own effect (notes/assumptions/9.md), and the obligations on `settle` say what that is. -/

open Sys2Proof
open Sys2Proof.Machine

namespace Sys2Proof.Claims

/-! ### Ports -/

/-- No port holds an access. -/
abbrev NothingHeld (s : State) : Prop := s.portF.held = none ∧ s.portP.held = none ∧ s.portS.held = none

/-- Port `x` is not BUSY, holds no access, and has its ring of 24 bytes (R160, R161). -/
abbrev Ready (s : State) (x : PortId) : Prop :=
  (s.port x).inFlight = none ∧ (s.port x).held = none ∧ (s.port x).ring.length = 24

/-- An access is taken at port `x` (R163: it clears xDONE), and leaves `ring` in the operand ring. -/
def taken (s : State) (x : PortId) (ring : List Byte) : State :=
  s.setPort x { s.port x with ring := ring, xdone := false }

/-- The command at port `x` completes with a code and a CALL bit (R163). -/
def finished (s : State) (x : PortId) (code : Code) (call : Bool) : State :=
  s.setPort x { s.port x with inFlight := none, code := code, xdone := true, xcall := call }

/-- The command taken at port `x` stays in flight (R161). -/
def staying (s : State) (x : PortId) (k : Flight) (call : Bool) : State :=
  s.setPort x { s.port x with inFlight := some { kind := k, call := call } }

/-- A ring after results are pushed so that reads return them in the order given (R160). -/
def pushed (results ring : List Byte) : List Byte := (results ++ ring).take 24

/-- Two bytes of a value, most significant first. -/
def twoBytes (n : Nat) : List Byte := [BitVec.ofNat 8 (n / 256), BitVec.ofNat 8 (n % 256)]

/-- The ports a command is listed for (11.8). -/
def listed : Cmd → List PortId
  | .ackNotice => [.feed, .print, .super]
  | .setNoticeMask => [.feed, .print, .super]
  | .abort => [.feed, .print, .super]
  | .start => [.feed]
  | .release => [.feed]
  | .drain => [.feed]
  | .standby => [.feed]
  | .loadMark => [.print]
  | .headOnline => [.print]
  | .headOffline => [.print]
  | .readHeads => [.print]
  | .setParameter => [.print, .super]
  | .readParameter => [.super]
  | .setSortEntry => [.super]
  | .readSortEntry => [.super]
  | .snapshotTallies => [.super]
  | .readTallies => [.super]
  | .clearTallies => [.super]
  | .readThroughput => [.super]
  | .swapTray => [.super]
  | .trayReady => [.super]
  | .readBins => [.super]
  | .readPiece => [.super]
  | .readLine => [.super]
  | .purge => [.super]
  | .resume => [.super]
  | .lineReset => [.super]

/-- The command of the table written at a port, as a row of the opcode table. -/
def written (c : Cmd) (x : PortId) (call : Bool) : Instr :=
  match c with
  | .ackNotice => .ackNotice x call
  | .setNoticeMask => .setNoticeMask x call
  | .abort => .abort x call
  | .start => .start x call
  | .release => .release x call
  | .drain => .drain x call
  | .standby => .standby x call
  | .loadMark => .loadMark x call
  | .headOnline => .headOnline x call
  | .headOffline => .headOffline x call
  | .readHeads => .readHeads x call
  | .setParameter => .setParameter x call
  | .readParameter => .readParameter x call
  | .setSortEntry => .setSortEntry x call
  | .readSortEntry => .readSortEntry x call
  | .snapshotTallies => .snapshotTallies x call
  | .readTallies => .readTallies x call
  | .clearTallies => .clearTallies x call
  | .readThroughput => .readThroughput x call
  | .swapTray => .swapTray x call
  | .trayReady => .trayReady x call
  | .readBins => .readBins x call
  | .readPiece => .readPiece x call
  | .readLine => .readLine x call
  | .purge => .purge x call
  | .resume => .resume x call
  | .lineReset => .lineReset x call

/-- The command codes (11.8). -/
def codeTable : List (Nat × Cmd) :=
  [(0x02, .ackNotice), (0x03, .setNoticeMask), (0x7F, .abort), (0x10, .start), (0x11, .release), (0x12, .drain),
   (0x13, .standby), (0x20, .loadMark), (0x21, .headOnline), (0x22, .headOffline), (0x23, .readHeads),
   (0x30, .setParameter), (0x31, .readParameter), (0x32, .setSortEntry), (0x33, .readSortEntry),
   (0x34, .snapshotTallies), (0x35, .readTallies), (0x36, .clearTallies), (0x37, .readThroughput), (0x38, .swapTray),
   (0x39, .trayReady), (0x3A, .readBins), (0x3B, .readPiece), (0x3C, .readLine), (0x3D, .purge), (0x3E, .resume),
   (0x3F, .lineReset)]

/-- The byte of a command code with its CALL bit in bit 7 (R161). -/
def byteFor (code : Nat) (call : Bool) : Byte := BitVec.ofNat 8 ((if call then 128 else 0) + code)

/-- A block phase is active at a port: a LOAD MARK past its reference wait, or one of the block reads (R162). -/
def inBlock (p : Port) : Bool :=
  match p.inFlight with
  | some { kind := .loadMark { phase := .block _ _ _, .. }, .. } => true
  | some { kind := .readTallies _ _ _ _, .. } => true
  | some { kind := .readBytes _, .. } => true
  | _ => false

/-- The number of a result code (11.9). -/
def resultNumber : Code → Nat
  | .done => 0 | .clamped => 1 | .wrongState => 2 | .badOperand => 3 | .notPermitted => 4 | .badConfig => 5
  | .aborted => 6 | .jammed => 7 | .unknownCommand => 8 | .notFound => 9 | .targetBusy => 10

/-- The port whose table lists a command that stays in flight (11.8). -/
def flightPort : Flight → PortId
  | .release => .feed
  | .drain => .feed
  | .loadMark _ => .print
  | .swapTray _ => .super
  | .readTallies _ _ _ _ => .super
  | .readBytes _ => .super

/-- Every command in flight is one the table lists for its port (R161, 11.8). -/
def FlightsListed (s : State) : Prop := ∀ x k, s.flight x = some k → x = flightPort k

/-- The status byte (11.9). -/
def statusOf (s : State) (x : PortId) : Byte :=
  BitVec.ofNat 8
    ((if (s.port x).inFlight = none then 0 else 128) +
      (if (s.port x).flags &&& (s.port x).mask = 0 then 0 else 64) +
      (if inBlock (s.port x) then 32 else 0) + (if s.line = .jammed then 16 else 0) +
      (if (s.port x).inFlight = none then resultNumber (s.port x).code else 15))

/-! ### What an event brings about -/

/-- A port takes an access at once (R161): a status read always, a command write while no command is in flight or when it is
ABORT, a data access while no command is in flight or in a block phase. -/
def TakenNow (p : Port) (a : Access) : Prop :=
  match a with
  | .statusRead => True
  | .commandWrite b => p.inFlight = none ∨ b.toNat % 128 = 0x7F
  | .dataWrite _ => p.inFlight = none ∨ inBlock p = true
  | .dataRead => p.inFlight = none ∨ inBlock p = true

/-- Port `x` holds access `a` and would take it now (R161). -/
def HeldDue (s : State) (x : PortId) (a : Access) : Prop := (s.port x).held = some a ∧ TakenNow (s.port x) a

/-- A reservation of either head references the target bank of a LOAD MARK (R111). -/
def Referenced (s : State) (l : Load) : Prop :=
  ∃ h r, ((s.head h).active = some r ∨ (s.head h).pending = some r) ∧ r.slot = l.slot ∧ r.bank = l.bank

/-- The induction permit is open (R38). -/
abbrev PermitOpen (s : State) : Prop :=
  s.line = .running ∧ s.cells[(0 : Fin 11)] = .clear ∧ s.gap ≤ s.params.geo.feedLead ∧ s.track.length < 32 ∧
    (∀ i : Fin 8, s.training[i] = 64) ∧ (s.bin .endTray).state = .available

/-- No DRAIN, SWAP TRAY or reference wait has met its condition (R49, R117, R130). -/
structure NoneComplete (s : State) : Prop where
  drain : ¬ (s.line = .draining ∧ s.track = [] ∧ s.release = .none)
  swap  : ∀ b, s.flight .super = some (.swapTray b) → (s.bin b).state = .swapping → (s.bin b).bound ≠ 0
  load  : ∀ l, s.flight .print = some (.loadMark l) → l.phase = .wait → Referenced s l

/-- Nothing in the state is due (R39, R49, R117, R130, R161): no held access could be taken, no DRAIN, SWAP TRAY or
reference wait has met its condition, and a waiting RELEASE meets a closed permit. -/
structure Settled (s : State) : Prop where
  held  : ∀ x a, ¬ HeldDue s x a
  ended : NoneComplete s
  grant : s.release = .waiting → ¬ PermitOpen s

/-- The line is RUNNING or DRAINING. -/
abbrev Moving (s : State) : Prop := s.line = .running ∨ s.line = .draining

/-- The line is IDLE or STANDBY. -/
abbrev Resting (s : State) : Prop := s.line = .idle ∨ s.line = .standby

/-- A counter raised by `n`, stopped at its limit (R136). -/
def raised (s : State) (t : Tally) (n : Nat) : Nat := min (s.tally t + n) 4294967295

/-- A counter raised once for each of `n` events, which may be none. -/
def gained (s : State) (t : Tally) (n : Nat) : Nat := if n = 0 then s.tally t else raised s t n

/-- TALLY SATURATED (bit 2 of the Supervisor flags) where a counter has come to its limit from below (R136). -/
def saturation (s u : State) : Byte := if ∃ i : Fin 32, s.live[i] < 4294967295 ∧ 4294967295 ≤ u.live[i] then 4 else 0

/-- A port with other notice flags, and nothing else of it changed (R165). -/
def flagged (p : Port) (flags : Byte) : Port := { p with flags := flags }

/-- A level taken at a cell (R3). -/
def seen (s : State) (x : Cell) (l : Level) : State := { s with cells := s.cells.set (cellIx x) l }

/-- The command in flight at a port has completed DONE (R163). -/
def DoneAt (p : Port) (call : Bool) : Prop := p.inFlight = none ∧ p.code = .done ∧ p.xdone = true ∧ p.xcall = call

/-- The command in flight at a port, its code and its lines stand as they did. -/
def Undisturbed (p q : Port) : Prop :=
  q.inFlight = p.inFlight ∧ q.code = p.code ∧ q.xdone = p.xdone ∧ q.xcall = p.xcall

/-- The event from `s` to `t` leaves bin `c` SWAPPING behind its SWAP TRAY with bound 0 (R130). -/
def SwapEnds (s t : State) (c : Bin) : Prop :=
  s.flight .super = some (.swapTray c) ∧ (s.bin c).state = .swapping ∧ (t.bin c).bound = 0

/-- What comes about within an event from `s` to `t`, no access being held, whose own effect leaves this line state and this
release state and no command completed: DRAIN's end (R29, R49), the grant (R39), SWAP TRAY's end (R130) and the end of LOAD
MARK's reference wait (R117), each exactly where its condition holds. -/
structure Follows (s t : State) (line : LineState) (release : ReleaseState) : Prop where
  held    : NothingHeld t
  drained : line = .draining → t.track = [] → release = .none → t.line = .idle ∧ t.release = .none ∧
    (∀ call, s.portF.inFlight = some { kind := .drain, call := call } → DoneAt t.portF call) ∧
    (s.flight .feed ≠ some .drain → Undisturbed s.portF t.portF)
  stands  : line ≠ .draining ∨ t.track ≠ [] ∨ release ≠ .none →
    t.line = line ∧ (release ≠ .waiting → t.release = release ∧ Undisturbed s.portF t.portF)
  granted : release = .waiting → PermitOpen t → t.release = .granted t.pos ∧
    ∀ call, s.portF.inFlight = some { kind := .release, call := call } → DoneAt t.portF call
  waits   : release = .waiting → ¬ PermitOpen t → t.release = .waiting ∧ Undisturbed s.portF t.portF
  swapped : ∀ c call, s.portS.inFlight = some { kind := .swapTray c, call := call } → SwapEnds s t c →
    (t.bin c).state = .withheld ∧ DoneAt t.portS call
  super   : (∀ c, ¬ SwapEnds s t c) → Undisturbed s.portS t.portS
  bins    : ∀ c, (s.bin c).state ≠ .available → ¬ SwapEnds s t c → (t.bin c).state = (s.bin c).state
  loads   : ∀ l call, s.portP.inFlight = some { kind := .loadMark l, call := call } → l.phase = .wait →
    ¬ Referenced t l →
    t.portP = { t.portP with
      inFlight := some { kind := .loadMark { l with phase := .block l.count 0 none }, call := call }
      code := s.portP.code, xdone := s.portP.xdone, xcall := s.portP.xcall }
  print   : (∀ l, s.flight .print = some (.loadMark l) → l.phase = .wait → Referenced t l) →
    Undisturbed s.portP t.portP

/-- What comes about after an event's own effect has made `u` of `s`, no access being held, and no command having ended in
`u` (EventsLeaveNothingDue says it with accesses held too). -/
def Completes (s u : State) : Prop := NothingHeld s → Follows s u.settle u.line u.release

/-! ### Parameters (11.9) -/

/-- The parameter table: identifier, parameter, range and default (11.9, R59). Lmax has the range at the defaults. -/
def parameterTable : List (Nat × ParamId × Nat × Nat × Nat) :=
  [(0, .geo .pR, 1, 16000, 400), (1, .geo .pF, 1, 16000, 1800), (2, .geo .flipSetup, 0, 255, 60),
   (3, .geo .flipHold, 0, 255, 40), (4, .geo .pT, 1, 16000, 2400), (5, .geo .pC, 1, 16000, 2800),
   (6, .geo .pP, 1, 16000, 2880), (7, .geo (.pG 0), 1, 16000, 3400), (8, .geo (.pG 1), 1, 16000, 3700),
   (9, .geo (.pG 2), 1, 16000, 4000), (10, .geo (.pG 3), 1, 16000, 4300), (11, .geo (.pG 4), 1, 16000, 4600),
   (12, .geo (.pG 5), 1, 16000, 4900), (13, .geo .gateSetup, 0, 255, 50), (14, .geo .gateHold, 0, 255, 30),
   (15, .geo .pE, 1, 16000, 5400), (16, .geo .tol, 4, 64, 20), (17, .geo .minGap, 40, 4095, 100),
   (18, .geo .feedLead, 0, 255, 40), (19, .geo .arrivalLimit, 50, 4000, 400), (20, .geo .maxPiece, 200, 1000, 600),
   (21, .geo .minPiece, 100, 400, 200),
   (32, .det .tag .t, 1, 255, 24), (33, .det .tag .lmin, 1, 255, 30), (34, .det .tag .lmax, 30, 400, 110),
   (35, .det .tag .smin, 1, 65535, 1500), (36, .det .tag .g, 0, 7, 3),
   (40, .det .meter .t, 1, 255, 30), (41, .det .meter .lmin, 1, 255, 40), (42, .det .meter .lmax, 40, 400, 200),
   (43, .det .meter .smin, 1, 65535, 2500), (44, .det .meter .g, 0, 7, 5),
   (48, .mPre, 0, 63, 10), (49, .recovery, 0, 255, 40), (56, .stallLimit, 100, 10000, 2000), (57, .interval, 1, 255, 60),
   (64, .capacity .endTray, 50, 4000, 1000), (65, .capacity (.tray 0), 50, 4000, 500),
   (66, .capacity (.tray 1), 50, 4000, 500), (67, .capacity (.tray 2), 50, 4000, 500),
   (68, .capacity (.tray 3), 50, 4000, 500), (69, .capacity (.tray 4), 50, 4000, 500),
   (70, .capacity (.tray 5), 50, 4000, 500)]

/-- The value of a geometry parameter. -/
def geoValue (g : Geometry) : GeoId → Nat
  | .pR => g.pR | .pF => g.pF | .flipSetup => g.flipSetup | .flipHold => g.flipHold | .pT => g.pT | .pC => g.pC
  | .pP => g.pP | .pG k => g.pG[k] | .gateSetup => g.gateSetup | .gateHold => g.gateHold | .pE => g.pE | .tol => g.tol
  | .minGap => g.minGap | .feedLead => g.feedLead | .arrivalLimit => g.arrivalLimit | .maxPiece => g.maxPiece
  | .minPiece => g.minPiece

/-- The number of a bin (Conventions). -/
def binNumber : Bin → Fin 7
  | .endTray => 0
  | .tray k => ⟨k.val + 1, by omega⟩

/-- The stored value of a parameter (R169); the bins group's are the capacities of the bin table (R133). -/
def stored (s : State) (p : ParamId) : Nat :=
  let det (d : Detector) : DetId → Nat
    | .t => d.t | .lmin => d.lmin | .lmax => d.lmax | .smin => d.smin | .g => d.g
  match p with
  | .geo i => geoValue s.params.geo i
  | .det .tag i => det s.params.detTag i
  | .det .meter i => det s.params.detMeter i
  | .mPre => s.params.mPre
  | .recovery => s.params.recovery
  | .stallLimit => s.params.stallLimit
  | .interval => s.params.interval
  | .capacity b => s.bins[binNumber b].capacity

/-! ### Line reset (R154) -/

/-- A port after a line reset. -/
def portAfterReset (p : Port) : Port :=
  { p with
    inFlight := none, code := if p.inFlight = none then p.code else .aborted, xdone := false, xcall := false, flags := 0 }

/-- A head after a line reset (R108). -/
def headAfterReset (d : Head) : Head :=
  { state := if d.state = .offline then .offline else .free, active := none, pending := none, latch := 0,
    strobe := false }

/-- A bin after a line reset (R131, R135). -/
def binAfterReset (e : BinEntry) : BinEntry :=
  { e with
    bound := 0
    state := if e.state = .swapping then (if e.count < e.capacity then .available else .full) else e.state }

/-- The machine after a line reset: what is not named is kept (R154, R138). -/
def afterLineReset (s : State) (cause : ResetCause) : State :=
  { s with
    track := [], iOcc := none, rOcc := none
    stallTimer := { count := 0, dormant := false }
    release := .none, gap := 0, training := Vector.replicate 8 0
    read := .idle, lastRes := none
    headHigh := headAfterReset s.headHigh, headLow := headAfterReset s.headLow
    bins := Vector.ofFn fun b => binAfterReset s.bins[b]
    gates := Vector.replicate 6 { isOpen := false, windows := [], hold := none }
    live := (s.live.set 2 (min (s.live[2] + s.track.length) 4294967295)).set 31 (min (s.live[31] + 1) 4294967295)
    line := .idle, resetCause := cause
    portF := portAfterReset s.portF, portP := portAfterReset s.portP, portS := portAfterReset s.portS }

/-! ### Invariants -/

/-- Each port's operand ring holds 24 bytes (R160). -/
def RingsWhole (s : State) : Prop := ∀ x, (s.port x).ring.length = 24

/-- The track holds at most 32 records, no two of one tag; the next-tag counter holds a tag none carries; and there is
room while a grant is outstanding (R18, R19). -/
structure TrackSound (s : State) : Prop where
  room     : s.track.length ≤ 32
  distinct : (s.track.map fun r => r.tag).Nodup
  fresh    : ∀ r ∈ s.track, r.tag ≠ s.nextTag
  granted  : ∀ g, s.release = .granted g → s.track.length < 32

/-- A head's slots fit its state (R91). -/
structure HeadSound (d : Head) : Prop where
  offline : d.state = .offline → d.active = none ∧ d.pending = none ∧ d.latch = 0
  order   : d.pending ≠ none → d.active ≠ none
  working : d.state = .marking ∨ d.state = .recovering → d.active ≠ none

/-- The line state and what rests on it (R14, R29, R36, R49, R107, R135, R149). -/
structure LineSound (s : State) : Prop where
  resting : Resting s → s.track = [] ∧ s.release = .none
  jammed  : s.line = .jammed → s.release = .none ∧ s.read = .idle ∧ (∀ r ∈ s.track, r.stage = .held ∧ r.next = none)
  closed  : s.line = .jammed → s.gates = Vector.replicate 6 { isOpen := false, windows := [], hold := none }
  empty   : s.line = .jammed → ∀ h, (s.head h).active = none ∧ (s.head h).pending = none
  timer   : ¬ Moving s ∨ s.track = [] → s.stallTimer = { count := 0, dormant := false }
  waiting : s.release = .waiting → s.flight .feed = some .release
  asked   : s.flight .feed = some .release → s.line = .running ∧ s.release ≠ .none
  drain   : s.flight .feed = some .drain → s.line = .draining
  listed  : FlightsListed s

/-- The seven consistency conditions (R168). -/
def Consistent (g : Geometry) : Prop :=
  (g.pR : Int) < (g.pF : Int) - g.flipSetup ∧ (g.pF : Int) - g.flipSetup - g.pR > g.maxPiece ∧
    (g.pF < g.pT ∧ g.pT < g.pC ∧ g.pC < g.pP) ∧ (g.pP : Int) - g.pC > g.tol ∧
    (g.pP < g.pG[0] ∧ g.pG[0] < g.pG[1] ∧ g.pG[1] < g.pG[2] ∧ g.pG[2] < g.pG[3] ∧ g.pG[3] < g.pG[4] ∧
      g.pG[4] < g.pG[5]) ∧
    (g.pG[5] + 120 < g.pE ∧ g.pE ≤ 16000) ∧ g.minGap ≥ g.gateSetup + g.gateHold

/-- A detector parameter set within its ranges (R59). -/
def DetectorSound (d : Detector) : Prop :=
  (1 ≤ d.t ∧ d.t ≤ 255) ∧ (1 ≤ d.lmin ∧ d.lmin ≤ 255) ∧ (d.lmin ≤ d.lmax ∧ d.lmax ≤ 400) ∧
    (1 ≤ d.smin ∧ d.smin ≤ 65535) ∧ d.g ≤ 7

/-- The parameter store within its ranges and consistent (R15, R59, R109, R144, R167, R168, 11.9). The capacities stand in
the bin table (`BinsSound`). -/
structure ParamsSound (p : Params) : Prop where
  geometry : Consistent p.geo
  places   : ∀ id g lo hi dflt, (id, ParamId.geo g, lo, hi, dflt) ∈ parameterTable →
    lo ≤ geoValue p.geo g ∧ geoValue p.geo g ≤ hi
  tag      : DetectorSound p.detTag
  meter    : DetectorSound p.detMeter
  cancel   : p.mPre ≤ 63 ∧ p.recovery ≤ 255
  timing   : 100 ≤ p.stallLimit ∧ p.stallLimit ≤ 10000 ∧ 1 ≤ p.interval ∧ p.interval ≤ 255

/-- Baselines, training counts and counters within their ranges (R46, R56, R136, R139). -/
structure CountsSound (s : State) : Prop where
  baselines : ∀ i : Fin 8, s.baselines[i] ≤ 4080
  training  : ∀ i : Fin 8, s.training[i] ≤ 64 ∧ s.training[i] = s.training[(0 : Fin 8)]
  live      : ∀ i : Fin 32, s.live[i] ≤ 4294967295
  snapshot  : ∀ i : Fin 32, s.snapshot[i] ≤ 4294967295

/-- The cell of a bin (R5). -/
def cellOf : Bin → Cell
  | .endTray => .e
  | .tray k => .b k

/-- The bin table and the records bound to its bins (R5, R124, R125, R129 to R133): each bound is the number of the
records that name its bin; a record that expects a bin cell is bound to that bin, and one that is not yet planned to none
(the read that is SAMPLING is such a record's, past R, and a jam has ended it); each capacity is within its range; count
plus bound of a tray stay within its capacity; AVAILABLE below the capacity, FULL at or above it, SWAPPING exactly behind a
SWAP TRAY in flight, and a WITHHELD tray has no letter bound. -/
structure BinsSound (s : State) : Prop where
  track     : TrackSound s
  listed    : FlightsListed s
  bound     : ∀ b, (s.bin b).bound = s.track.countP fun r => decide (r.bin = some b)
  expected  : ∀ r ∈ s.track, ∀ b, r.next = some (cellOf b) → r.bin = some b
  unread    : ∀ r ∈ s.track, r.next = some .r → r.bin = none
  sampled   : ∀ d ch, s.read = .sampling d ch → ∃ r ∈ s.track, r.tag = d.tag ∧ r.bin = none ∧ r.next ≠ some .r
  jammed    : s.line = .jammed → s.read = .idle
  capacity  : ∀ b, 50 ≤ (s.bin b).capacity ∧ (s.bin b).capacity ≤ 4000
  fits      : ∀ k : Fin 6, (s.bin (.tray k)).count + (s.bin (.tray k)).bound ≤ (s.bin (.tray k)).capacity
  available : ∀ b, (s.bin b).state = .available → (s.bin b).count < (s.bin b).capacity
  full      : ∀ b, (s.bin b).state = .full → (s.bin b).capacity ≤ (s.bin b).count
  swapping  : ∀ b, (s.bin b).state = .swapping ↔ s.flight .super = some (.swapTray b)
  withheld  : ∀ k : Fin 6, (s.bin (.tray k)).state = .withheld → (s.bin (.tray k)).bound = 0

/-- The sum of the seven arrival counters. -/
def arrivalsSum (s : State) : Nat :=
  s.live[23] + s.live[24] + s.live[25] + s.live[26] + s.live[27] + s.live[28] + s.live[29]

/-- The two laws of the counts: Inducted is the track count plus Exited plus Purged, and Exited the sum of the arrivals,
as long as none of the counters of the law has saturated (R28, R137). -/
structure Balanced (s : State) : Prop where
  inducted : s.live[0] < 4294967295 → s.live[1] < 4294967295 → s.live[2] < 4294967295 →
    s.live[0] = s.track.length + s.live[1] + s.live[2]
  exited : s.live[1] < 4294967295 → (∀ b, s.tally (.arrivals b) < 4294967295) → s.live[1] = arrivalsSum s

/-- The invariant the laws of the counts rest on. -/
structure BooksSound (s : State) : Prop where
  track    : TrackSound s
  line     : LineSound s
  balanced : Balanced s

end Sys2Proof.Claims

open Sys2Proof.Claims

/-! ### Steps, events and accesses -/

/-- The queue (notes/assumptions/1.md): the command in front is run on the state with the queue's rest, and an empty queue
leaves the state. -/
def Obligations.StepTakesTheFrontCommand : Prop :=
  (∀ (c : Instr) (rest : List Instr) (s : State),
      step { s with pending := c :: rest } = exec c { s with pending := rest }) ∧
    ∀ s : State, s.pending = [] → step s = .next s

/-- Every command answers a next state, in every state, and leaves the queue alone (notes/assumptions/1.md, 14.md). -/
def Obligations.EveryCommandAnswersAndKeepsTheQueue : Prop :=
  ∀ (c : Instr) (s : State), ∃ t, exec c s = .next t ∧ t.pending = s.pending

/-- R39, R49, R117, R130, R161: an event leaves nothing due: no held access that could be taken, no DRAIN, SWAP TRAY or
reference wait whose condition is met, no RELEASE waiting at an open permit. What `settle` does is said case by case, and
the cases together fix it. Where nothing is due it does nothing. It brings about a completion that is due, as the row of
that completion does (CompletionRowsActOnTheirConditions says what these rows do). With no completion due, a held access
that its port would take is taken next, and acts as the access does at a port that holds none; where only one port has one
that is the one, and between several the order is free (notes/assumptions/8.md). With no such access either, a waiting
RELEASE meets the permit as the event leaves it, as the GRANT row does (TimeAndGrantRowsActOnTheirConditions). The order of
the three is the model's reading (notes/assumptions/9.md). -/
def Obligations.EventsLeaveNothingDue : Prop :=
  (∀ (c : Instr) (s t : State), exec c s = .next t → Settled t) ∧ (∀ s : State, Settled s → s.settle = s) ∧
    (∀ s : State, exec .drainComplete s = .next s.settle ∧ exec .swapComplete s = .next s.settle ∧
      exec .referenceWaitEnd s = .next s.settle) ∧
    (∀ s : State, NoneComplete s → (∃ x a, HeldDue s x a) → ∃ x a n, HeldDue s x a ∧
      ((∀ y b, HeldDue s y b → y = x) → n = s.freeCount) ∧
      exec (.accessHeld x a) (State.setPort { s with freeCount := n } x { s.port x with held := none }) =
        .next s.settle) ∧
    ∀ s : State, NoneComplete s → (∀ x a, ¬ HeldDue s x a) → exec .grant s = .next s.settle

/-- R161: the byte of a command, its code in bits 6 to 0 and its CALL bit in bit 7, acts as its row of the command table
does (that a command write which the ACCESS_HELD row names acts as the row also at a port that can take it is the model's
choice, notes/assumptions/7.md); a byte whose code is in no table is refused with UNKNOWN COMMAND; a code listed for other
ports only is refused with NOT PERMITTED. A refusal takes no operand (R160). -/
def Obligations.CommandBytesActByTheTable : Prop :=
  (∀ code c, (code, c) ∈ codeTable → ∀ (x : PortId) (call : Bool) (s : State),
      exec (.accessHeld x (.commandWrite (byteFor code call))) s = exec (written c x call) s) ∧
    (∀ (x : PortId) (b : Byte) (s : State), Ready s x → (∀ code c, (code, c) ∈ codeTable → b.toNat % 128 ≠ code) →
      ∀ i ∈ [Instr.unknownCommand x b, Instr.accessHeld x (.commandWrite b)], exec i s =
        .next (finished (taken s x (s.port x).ring) x .unknownCommand (decide (128 ≤ b.toNat))).settle) ∧
    ∀ (c : Cmd) (x : PortId) (call : Bool) (s : State), Ready s x → x ∉ listed c →
      exec (written c x call) s = .next (finished (taken s x (s.port x).ring) x .notPermitted call).settle

/-- R161: at a BUSY port a command write other than ABORT is held, and outside a block phase a data access is held, with
xWAIT asserted and nothing else changed. -/
def Obligations.BusyPortHoldsTheAccess : Prop :=
  ∀ (s : State) (x : PortId), (s.port x).inFlight ≠ none → (s.port x).held = none →
    (∀ code c, (code, c) ∈ codeTable → c ≠ .abort → ∀ call : Bool,
      exec (written c x call) s =
        .next (s.setPort x { s.port x with held := some (.commandWrite (byteFor code call)) }).settle) ∧
    (∀ b : Byte, b.toNat % 128 ≠ 0x7F →
      exec (.accessHeld x (.commandWrite b)) s =
        .next (s.setPort x { s.port x with held := some (.commandWrite b) }).settle) ∧
    (inBlock (s.port x) = false →
      (∀ b : Byte, ∀ i ∈ [Instr.accessHeld x (.dataWrite b), Instr.dataWrite x b],
        exec i s = .next (s.setPort x { s.port x with held := some (.dataWrite b) }).settle) ∧
      ∀ i ∈ [Instr.accessHeld x .dataRead, Instr.dataRead x],
        exec i s = .next (s.setPort x { s.port x with held := some .dataRead }).settle)

/-- R160: a data write outside a block phase pushes its byte onto the top and loses the bottom byte; a data read returns
the top byte, which moves to the bottom. The byte a read returns is held where notes/assumptions/11.md says. That a data
access sent as the ACCESS_HELD row acts as its own row does, which says what one held before does when it is taken, is the
model's choice (notes/assumptions/7.md). -/
def Obligations.DataAccessesWorkTheRing : Prop :=
  (∀ (s : State) (x : PortId) (b : Byte), Ready s x →
      exec (.dataWrite x b) s = .next (taken s x (b :: (s.port x).ring.dropLast)).settle) ∧
    (∀ (s : State) (x : PortId), (∀ b, exec (.accessHeld x (.dataWrite b)) s = exec (.dataWrite x b) s) ∧
      exec (.accessHeld x .dataRead) s = exec (.dataRead x) s) ∧
    ∀ (s : State) (x : PortId) (top : Byte) (rest : List Byte), Ready s x → (s.port x).ring = top :: rest →
      exec (.dataRead x) s =
        .next (s.setPort x { s.port x with ring := rest ++ [top], out := top, xdone := false }).settle

/-- R159, R163, 11.9: a status read is taken in every state of the port, returns the status byte and clears xDONE; a pulse
on xDCLR or xCCLR clears its line and acts on that line alone. The byte returned is held where notes/assumptions/11.md
says. -/
def Obligations.StatusReadAndPulsesAreTakenAtOnce : Prop :=
  ∀ (s : State) (x : PortId),
    ((s.port x).held = none →
      exec (.statusRead x) s = .next (s.setPort x { s.port x with out := statusOf s x, xdone := false }).settle) ∧
    exec (.xdclrPulse x) s = .next (s.setPort x { s.port x with xdone := false }).settle ∧
    exec (.xcclrPulse x) s = .next (s.setPort x { s.port x with xcall := false }).settle

/-- R164: ABORT ends the command in flight at its own port with ABORTED and its own CALL bit; a RELEASE that waits leaves
the release state NONE and one behind a grant leaves the grant (R40); a SWAP TRAY returns its bin (R131); with nothing in
flight ABORT completes DONE. -/
def Obligations.AbortEndsTheCommandInFlight : Prop :=
  ∀ (s : State) (x : PortId) (call : Bool), (s.port x).held = none →
    let u := taken s x (s.port x).ring
    (s.flight x = none → exec (.abort x call) s = .next (finished u x .done call).settle) ∧
    (s.flight x = some .release → s.release = .waiting →
      exec (.abort x call) s = .next (finished { u with release := .none } x .aborted call).settle) ∧
    (s.flight x = some .release → s.release ≠ .waiting →
      exec (.abort x call) s = .next (finished u x .aborted call).settle) ∧
    (∀ k, s.flight x = some k → k ≠ .release → (∀ b, k ≠ .swapTray b) →
      exec (.abort x call) s = .next (finished u x .aborted call).settle) ∧
    (∀ b, s.flight x = some (.swapTray b) → (s.bin b).count < (s.bin b).capacity →
      exec (.abort x call) s =
        .next (finished (u.setBin b { s.bin b with state := .available }) x .aborted call).settle) ∧
    (∀ b, s.flight x = some (.swapTray b) → (s.bin b).capacity ≤ (s.bin b).count →
      exec (.abort x call) s =
        .next (finished
          (let v := (u.setBin b { s.bin b with state := .full }).raise .super .trayFull
           if b = .endTray then v.raise .feed .trayFullEnd else v) x .aborted call).settle)

/-- R166: ACK NOTICE takes a mask byte, pushes the flags as they stand and clears those of the mask; SET NOTICE MASK takes
the mask byte and replaces the port's mask. Both complete DONE. -/
def Obligations.NoticeCommandsWorkFlagsAndMask : Prop :=
  ∀ (s : State) (x : PortId) (call : Bool) (m : Byte) (rest : List Byte), Ready s x → (s.port x).ring = m :: rest →
    exec (.ackNotice x call) s =
      .next (finished (s.setPort x { s.port x with ring := (s.port x).flags :: rest, flags := (s.port x).flags &&& ~~~m })
        x .done call).settle ∧
    exec (.setNoticeMask x call) s =
      .next (finished (s.setPort x { s.port x with ring := rest ++ [0], mask := m }) x .done call).settle

/-- R136: a counter raised stops at 4294967295; reaching it from below raises TALLY SATURATED at the Supervisor port (bit
2, 11.9); no other counter and no other flag changes. -/
def Obligations.RaisedCounterStopsAtItsLimit : Prop :=
  ∀ (s : State) (t : Tally) (n : Nat),
    let v := s.bumpBy t n
    v.tally t = raised s t n ∧ (∀ u, u ≠ t → v.tally u = s.tally u) ∧
      (s.tally t < 4294967295 → 4294967295 ≤ s.tally t + n → v.portS.flags = s.portS.flags ||| 4) ∧
      (4294967295 ≤ s.tally t ∨ s.tally t + n < 4294967295 → v.portS = s.portS) ∧
      v.portF = s.portF ∧ v.portP = s.portP ∧ v.track = s.track ∧ v.line = s.line

/-! ### Power-on and line reset -/

/-- R157 with R17, R30, R52, R58, R90, R108, R121, R122, R124, R135, R139 and R146: the values the spec gives for power-on,
of State.reset, every parameter at its default (11.9) among them. The values the model chose (cell levels, the reset
input's level, the newest place, each port's last byte) are not in it. -/
def Obligations.PowerOnValuesFollowTheSpec : Prop :=
  let s := State.reset
  (s.line = .idle ∧ s.resetCause = .powerOn ∧ s.jamCause = .none ∧ s.jamCell = none) ∧
  (∀ x, (s.port x).inFlight = none ∧ (s.port x).code = .done ∧ (s.port x).xdone = false ∧ (s.port x).xcall = false ∧
    (s.port x).flags = 0 ∧ (s.port x).mask = 0xFF ∧ (s.port x).ring = List.replicate 24 0 ∧ (s.port x).held = none) ∧
  (s.pos = 0 ∧ s.iOcc = none ∧ s.rOcc = none ∧ s.stallTimer = { count := 0, dormant := false }) ∧
  (s.track = [] ∧ s.nextTag = 0 ∧ s.release = .none ∧ s.gap = 0) ∧
  ((∀ i : Fin 8, s.training[i] = 0) ∧ (∀ i : Fin 8, s.baselines[i] = 0) ∧ s.read = .idle) ∧
  (s.gateOut = .straight ∧ s.lastRes = none) ∧
  (∀ h, (s.head h).state = .offline ∧ (s.head h).active = none ∧ (s.head h).pending = none ∧ (s.head h).latch = 0) ∧
  (∀ n : Fin 4, s.store[n].live = 0 ∧ s.store[n].ready = false ∧
    ∀ b : Fin 2, s.store[n].banks[b].count = 0 ∧ ∀ i : Fin 128, s.store[n].banks[b].columns[i] = 0) ∧
  (s.sort = #v[⟨.tray 0, .tray 1, true, 0⟩, ⟨.tray 2, .tray 3, true, 0⟩, ⟨.tray 4, .endTray, false, 0⟩,
    ⟨.tray 5, .endTray, false, 0⟩, ⟨.endTray, .endTray, false, 0⟩, ⟨.endTray, .endTray, false, 0⟩,
    ⟨.endTray, .endTray, false, 0⟩, ⟨.endTray, .endTray, false, 0⟩, ⟨.endTray, .endTray, false, 0⟩]) ∧
  (∀ b, (s.bin b).state = .available ∧ (s.bin b).count = 0 ∧ (s.bin b).bound = 0 ∧
    (s.bin b).capacity = if b = .endTray then 1000 else 500) ∧
  (∀ k : Fin 6, s.gates[k] = { isOpen := false, windows := [], hold := none }) ∧
  ((∀ i : Fin 32, s.live[i] = 0) ∧ ∀ i : Fin 32, s.snapshot[i] = 0) ∧
  ((∀ i : Fin 16, s.throughput.ring[i] = 0) ∧ s.throughput.elapsed = 0 ∧ s.throughput.count = 0) ∧
  ∀ id p lo hi dflt, (id, p, lo, hi, dflt) ∈ parameterTable → stored s p = dflt

/-- POWER_ON: every block takes its power-on value, the cell levels and the reset input are taken as they stand and neither
an edge nor a reset comes of them (R3, R156, R157). That the queue and the model's own counter of free choices outlive it
is the model's choice (notes/assumptions/1.md, 8.md). -/
def Obligations.PowerOnTakesTheInputsAsTheyStand : Prop :=
  ∀ (s : State) (cells : CellLevels) (asserted : Bool),
    exec (.powerOn cells asserted) s =
      .next { State.reset with cells := cells, resetLevel := asserted, freeCount := s.freeCount, pending := s.pending }

/-- R154 to R156: an assertion of the reset input, and LINE RESET taken at the Supervisor port, reset the line with their
causes; the input held asserted, or released, resets nothing; LINE RESET itself completes DONE after the reset. -/
def Obligations.LineResetHasItsTwoSources : Prop :=
  ∀ s : State,
    (s.resetLevel = false →
      exec (.resetInput true) s = .next (State.settle { afterLineReset s .lineInput with resetLevel := true })) ∧
    (s.resetLevel = true → exec (.resetInput true) s = .next s.settle) ∧
    exec (.resetInput false) s = .next (State.settle { s with resetLevel := false }) ∧
    (Ready s .super → ∀ call : Bool,
      exec (.lineReset .super call) s = .next (finished (afterLineReset s .lineCommand) .super .done call).settle)

/-! ### Invariants -/

/-- The machine after reset meets every invariant below. -/
def Obligations.ResetMeetsTheInvariants : Prop :=
  RingsWhole State.reset ∧ TrackSound State.reset ∧ (∀ h, HeadSound (State.reset.head h)) ∧ LineSound State.reset ∧
    ParamsSound State.reset.params ∧ CountsSound State.reset ∧ BooksSound State.reset ∧ BinsSound State.reset ∧
    Settled State.reset

/-- R160: each operand ring always holds 24 bytes. -/
def Obligations.StepsKeepTheRingsWhole : Prop :=
  ∀ s t : State, RingsWhole s → step s = .next t → RingsWhole t

/-- R18, R19: the track never holds more than 32 records, no two of one tag, and the next-tag counter always holds a tag
that no record carries. -/
def Obligations.StepsKeepTheTrackSound : Prop :=
  ∀ s t : State, TrackSound s → step s = .next t → TrackSound t

/-- R91: a head in OFFLINE holds no reservation, a Pending stands only behind an Active, and a head that marks or recovers
has an Active. -/
def Obligations.StepsKeepTheHeadsSound : Prop :=
  ∀ s t : State, (∀ h, HeadSound (s.head h)) → step s = .next t → ∀ h, HeadSound (t.head h)

/-- The line state and what rests on it: an empty track with release state NONE in IDLE and STANDBY; held records, closed
gates, empty heads and release state NONE in JAMMED; a stall timer that stands while it does not run; WAITING exactly
behind a RELEASE in flight; a DRAIN in flight only in DRAINING; and at each port only such commands in flight as the table
lists for it (11.8). -/
def Obligations.StepsKeepTheLineSound : Prop :=
  ∀ s t : State, LineSound s → step s = .next t → LineSound t

/-- R46, R56, R59, R109, R136, R144, R167, R168: the geometry in force satisfies the seven conditions, and each of its
parameters stays in its range; so do the detector, cancel and timing parameters, Lmax at or above Lmin; baselines stay
within 0 to 4080, training counts within 0 to 64 and all of one value, and counters within their limit. (The capacities'
ranges are in StepsKeepTheBinTableSound.) -/
def Obligations.StepsKeepTheValuesInRange : Prop :=
  ∀ s t : State, ParamsSound s.params ∧ CountsSound s → step s = .next t → ParamsSound t.params ∧ CountsSound t

/-- R28, R137: the two laws of the counts, with the invariants they rest on. -/
def Obligations.StepsKeepTheBooksBalanced : Prop :=
  ∀ s t : State, BooksSound s → step s = .next t → BooksSound t

/-- R124, R125, R133: the bin table agrees with the track at every step, a tray's count plus bound stay within its
capacity, and each capacity stays within 50 to 4000. -/
def Obligations.StepsKeepTheBinTableSound : Prop :=
  ∀ s t : State, BinsSound s → step s = .next t → BinsSound t

/-! ### Encoder steps -/

namespace Sys2Proof.Claims

/-! Windows (R2). -/

/-- The window has begun at `p` (R2). -/
def begun (w : Window) (p : Pos) : Bool := atOrAfter p w.fromPos

/-- The window has been passed at `p`; an open one never is (R2, R25). -/
def passed (w : Window) (p : Pos) : Bool :=
  match w.toPos with
  | none => false
  | some q => isAfter p q

/-- `p` lies within the window; an open one holds every position at or after its from (R2, R84, R126). -/
def within (w : Window) (p : Pos) : Bool :=
  atOrAfter p w.fromPos &&
    match w.toPos with
    | none => true
    | some q => atOrAfter q p

/-! Tray gates (R126 to R128). -/

/-- A gate's output brought up to date: OPEN within a listed window or while a hold is present (R127). -/
def upToDate (g : TrayGate) (p : Pos) : TrayGate :=
  { g with isOpen := g.windows.any (fun w => within w.win p) || g.hold.isSome }

/-- A gate at an encoder step (R127). -/
def gateStepped (g : TrayGate) (p : Pos) : TrayGate :=
  upToDate
    { g with
      windows := g.windows.filter fun w => !passed w.win p
      hold := match g.hold with | none => none | some h => if isAfter p h = true then none else some h } p

/-- The tray gate window of a letter (R126); open while Lp is absent. -/
def trayWindow (g : Geometry) (anchor : Pos) (k : Fin 6) (lp : Option Nat) : Window where
  fromPos := anchor + BitVec.ofNat 16 g.pG[k] - BitVec.ofNat 16 g.gateSetup
  toPos := lp.map fun n => anchor + BitVec.ofNat 16 (g.pG[k] + n + g.gateHold)

/-- A window a re-anchor moves by `d` (R9). -/
def moved (w : Window) (p d : Pos) : Window :=
  if begun w p = false then { fromPos := w.fromPos + d, toPos := w.toPos.map fun q => q + d }
  else if passed w p = true then w
  else { w with toPos := w.toPos.map fun q => q + d }

/-- A gate at a re-anchor by `d` of the record of tag `t`: its windows move, and one that ends there is removed (R9,
R126). -/
def gateMoved (g : TrayGate) (t : Tag) (p d : Pos) : TrayGate :=
  upToDate
    { g with
      windows := g.windows.filterMap fun w =>
        if w.holder ≠ t then some w
        else if begun w.win p = true ∧ passed w.win p = false ∧ passed (moved w.win p d) p = true then none
        else some { w with win := moved w.win p d } } p

/-- A gate whose holder's open to closes at `q` (R128). -/
def gateClosed (g : TrayGate) (t : Tag) (q p : Pos) : TrayGate :=
  upToDate
    { g with
      windows := g.windows.map fun w =>
        if w.holder = t ∧ w.win.toPos = none then { w with win := { w.win with toPos := some q } } else w } p

/-- The later of a hold and a position (R128). -/
def heldUntil (h : Option Pos) (q : Pos) : Pos :=
  match h with
  | none => q
  | some p => if isAfter q p = true then q else p

/-! The flip gate (R81, R84, R86, R87). -/

/-- The flip gate window of a letter (R81, R83); open while Lp is absent. -/
def flipSpan (g : Geometry) (anchor : Pos) (lp : Option Nat) : Window where
  fromPos := anchor + BitVec.ofNat 16 g.pF - BitVec.ofNat 16 g.flipSetup
  toPos := lp.map fun n => anchor + BitVec.ofNat 16 (g.pF + n + g.flipHold)

/-- The last reservation after a step to `p` (R86). -/
def retiredAt (l : Option FlipReservation) (p : Pos) : Option FlipReservation :=
  match l with
  | none => none
  | some v => if passed v.win p = true then none else some v

/-- A PLANNED record whose flip gate window holds the position asks for a setting (R84). -/
def Asks (r : Record) (p : Pos) (st : Setting) : Prop :=
  r.stage = .planned ∧ ∃ g, r.gate = some g ∧ g.setting = st ∧ within g.win p = true

/-- A to moved by `d` goes its way, but on a positive correction stops before every from it would reach (R87). -/
def ToMoved (old d new : Pos) (froms : Pos → Prop) : Prop :=
  let reached (f : Pos) : Prop := froms f ∧ isAfter f old = true ∧ atOrAfter (old + d) f = true
  (d.toInt < 0 → new = old + d) ∧
    (0 < d.toInt → (new = old + d ∨ ∃ f, reached f ∧ new = f - 1) ∧ ∀ f, reached f → atOrAfter (f - 1) new = true)

/-- A from moved by `d` goes its way, but on a negative correction stops after every to it would reach (R87). -/
def FromMoved (old d new : Pos) (tos : Pos → Prop) : Prop :=
  let reached (q : Pos) : Prop := tos q ∧ isAfter old q = true ∧ atOrAfter q (old + d) = true
  (0 < d.toInt → new = old + d) ∧
    (d.toInt < 0 → (new = old + d ∨ ∃ q, reached q ∧ new = q + 1) ∧ ∀ q, reached q → atOrAfter new (q + 1) = true)

/-- A flip gate window `w` becomes `w'` at a re-anchor by `d` at position `p` (R9, R87): the to of a begun window moves
only while its record holds the last reservation, and the windows that `rival` names limit it. -/
def FlipMoved (w w' : Window) (p d : Pos) (holder : Prop) (rival : Window → Prop) : Prop :=
  let toMoves : Prop := (w.toPos = none → w'.toPos = none) ∧
    ∀ q, w.toPos = some q → ∃ q', w'.toPos = some q' ∧ ToMoved q d q' fun f => ∃ v, rival v ∧ v.fromPos = f
  (begun w p = false → FromMoved w.fromPos d w'.fromPos (fun q => ∃ v, rival v ∧ v.toPos = some q) ∧ toMoves) ∧
    (begun w p = true → w'.fromPos = w.fromPos ∧ (passed w p = true ∨ ¬ holder → w'.toPos = w.toPos) ∧
      (passed w p = false → holder → toMoves))

/-- The window of another PLANNED record that holds another setting (R87). -/
def Rival (s : State) (t : Tag) (st : Setting) (w : Window) : Prop :=
  ∃ o ∈ s.track, o.stage = .planned ∧ o.tag ≠ t ∧ ∃ g, o.gate = some g ∧ g.setting ≠ st ∧ g.win = w

/-! Plans (R73, R81 to R89, R125). -/

/-- The number of a class (11.9). -/
def classNumber : Machine.Class → Fin 9
  | .stampedUp => 0 | .stampedInv => 1 | .meteredUp => 2 | .meteredInv => 3 | .unfaced => 4 | .ambiguous => 5
  | .unusual => 6 | .short => 7 | .overlength => 8

/-- The gate setting with its window, and the turn conflict, of a record with this orientation and length planned against
this last reservation (R81 to R83; FlipGatePlanMeetsTheLastReservation says what `planGate` gives). -/
def gatePlan (s : State) (last : Option FlipReservation) (anchor : Pos) (o : Option Orientation) (lp : Option Nat) :
    GatePlan × Bool :=
  planGate last (match o with | none => .straight | some k => if k.needsTurn then .turn else .straight)
    (flipSpan s.params.geo anchor lp) lp.isNone

/-- The sort plan entry that routes a record (R89). -/
def routing (s : State) (k : Machine.Class) (conflict : Bool) : SortEntry :=
  s.sort[classNumber (if conflict then .unfaced else k)]

/-- The bin takes a binding (R125). -/
def Fits (e : BinEntry) : Prop := e.state = .available ∧ e.count + e.bound < e.capacity

/-- The bin an entry leads to (R125). -/
def LedTo (s : State) (e : SortEntry) (b : Bin) : Prop :=
  (e.primary = .endTray → b = .endTray) ∧
  (e.primary ≠ .endTray → Fits (s.bin e.primary) → b = e.primary) ∧
  (e.primary ≠ .endTray → ¬ Fits (s.bin e.primary) → e.alternate = .endTray → b = .endTray) ∧
  (e.primary ≠ .endTray → ¬ Fits (s.bin e.primary) → e.alternate ≠ .endTray → Fits (s.bin e.alternate) →
    b = e.alternate) ∧
  (e.primary ≠ .endTray → ¬ Fits (s.bin e.primary) → ¬ Fits (s.bin e.alternate) → b = .endTray)

/-- A record is bound to `b`, the bin its entry leads to: that bin's bound has risen by one, and no other bound, and no
count, capacity or state has changed (R125). -/
structure BoundTo (s t : State) (e : SortEntry) (b : Bin) : Prop where
  led    : LedTo s e b
  bound  : (t.bin b).bound = (s.bin b).bound + 1
  others : ∀ c, c ≠ b → (t.bin c).bound = (s.bin c).bound
  kept   : ∀ c, (t.bin c).count = (s.bin c).count ∧ (t.bin c).capacity = (s.bin c).capacity ∧
    (t.bin c).state = (s.bin c).state

/-- The six gates after a record is bound to `b`: its tray's gate lists its window last and is brought up to date, any other
gate stands (R126, R127). -/
def GatesBound (s t : State) (b : Bin) (r : Record) (lp : Option Nat) : Prop :=
  ∀ j : Fin 6, t.gates[j] =
    if b = .tray j then
      upToDate { s.gates[j] with
        windows := s.gates[j].windows ++ [{ holder := r.tag, win := trayWindow s.params.geo r.anchor j lp }] } s.pos
    else s.gates[j]

/-- A mark is wanted (R96). -/
def Wanted (k : Machine.Class) (conflict : Bool) (e : SortEntry) : Prop :=
  (k = .stampedUp ∨ k = .stampedInv ∨ k = .meteredUp ∨ k = .meteredInv) ∧ conflict = false ∧ e.cancel = true

/-- What the planner hands the cancel unit for a candidate: the offsets mirrored on TURN (R88, R89). -/
def handed (r : Record) (o : Orientation) (e : SortEntry) (st : Setting) (c : Candidate) (lp : Nat) : MarkRequest where
  tag := r.tag
  anchor := r.anchor
  facing := o.facing
  slot := e.slot
  start := if st = .turn then (lp : Int) - 1 - c.last else c.start
  last := if st = .turn then (lp : Int) - 1 - c.start else c.last
  lp := lp

/-- What the cancel unit and its tallies hold in `t` is what they hold in `v` (R97). -/
structure SameMarks (v t : State) : Prop where
  heads   : t.headHigh = v.headHigh ∧ t.headLow = v.headLow
  store   : t.store = v.store
  counts  : t.tally .uncancelledConflict = v.tally .uncancelledConflict ∧
    t.tally .uncancelledOffline = v.tally .uncancelledOffline
  notices : t.portP.flags = v.portP.flags

/-! Steps and jams. -/

/-- The machine at the position an encoder step brings, before the blocks act on it. -/
def stepped (s : State) : State := { s with pos := s.pos + 1 }

/-- Both heads' work at an encoder step (R92 to R95; HeadStepsThroughItsSchedule says what `stepHead` does). -/
def headsStepped (s : State) : State := ((stepped s).stepHead .high).stepHead .low

/-- A reservation still owed its outcome to the record of tag `t`. -/
def owed (o : Option Reservation) (t : Tag) : Bool :=
  match o with
  | none => false
  | some a => a.linked && !a.cut && decide (a.holder = t)

/-- The outcome of a head's Active reservation at a jam (R107). -/
def jamActive (d : Head) : Mark :=
  if d.state = .marking then .incomplete else if d.state = .recovering then .done else .uncancelled .jam

/-- The mark of a record after a jam (R26, R107). In no run do two reservations name one record. -/
def markAtJam (s : State) (r : Record) : Option Mark :=
  if owed s.headLow.pending r.tag then some (.uncancelled .jam)
  else if owed s.headLow.active r.tag then some (jamActive s.headLow)
  else if owed s.headHigh.pending r.tag then some (.uncancelled .jam)
  else if owed s.headHigh.active r.tag then some (jamActive s.headHigh)
  else r.mark

/-- Lp of a record after a jam: fixed at the step count for the record being read (R26, R71). -/
def lengthAtJam (s : State) (r : Record) : Option Nat :=
  match s.read with
  | .idle => r.lp
  | .sampling d _ => if d.tag = r.tag then some d.count else r.lp
  | .overrun d => if d.tag = r.tag then some d.count else r.lp

/-- How many heads hold, in a state, an Active that is not cut. -/
def headsAt (s : State) (st : HeadState) : Nat :=
  let one (d : Head) : Nat := match d.active with | none => 0 | some a => if d.state = st ∧ a.cut = false then 1 else 0
  one s.headHigh + one s.headLow

/-- The record's expected window at its next checkpoint has been passed at position `p` (R5, R11). -/
def MissingAt (s : State) (p : Pos) (r : Record) : Prop :=
  ∃ x, r.next = some x ∧
    isAfter p (r.anchor + BitVec.ofNat 16 (cellPosition s.params.geo x) + BitVec.ofNat 16 s.params.geo.tol) = true

/-- No record is missing at the next position. -/
def NoneMissing (s : State) : Prop := ∀ r ∈ s.track, ¬ MissingAt s (s.pos + 1) r

/-- The next encoder step takes the position past the arrival window of a grant, in RUNNING or DRAINING (R43). -/
def Misses (s : State) : Prop :=
  Moving s ∧ ∃ g, s.release = .granted g ∧
    isAfter (s.pos + 1) (g + BitVec.ofNat 16 s.params.geo.arrivalLimit) = true

/-- The release state an encoder step leaves before the grant is judged: a grant whose arrival window the step passes has
lapsed (R36, R43). -/
def ReleaseStepped (s u : State) : Prop :=
  (¬ Misses s → u.release = s.release) ∧
    (Misses s → u.release = if s.flight .feed = some .release then .waiting else .none)

/-- The next encoder step is a training step (R46). -/
def Trains (s : State) : Prop := s.cells[(1 : Fin 11)] = .clear ∧ (s.line = .idle ∨ Moving s)

/-- The next encoder step abandons no read: none is SAMPLING with R BLOCKED in RUNNING or DRAINING at the latched MaxPiece
or above (R68). -/
def Unabandoned (s : State) : Prop :=
  ∀ d ch, s.read = .sampling d ch → Moving s → s.cells[(1 : Fin 11)] = .blocked → d.count < d.latched.maxPiece

/-- An encoder step that jams nothing, before what it completes: all that it may change, the heads at their schedules
(HeadStepsThroughItsSchedule), the grant, the notices of the Feed port (bit 1 FEED MISS, bit 3 TRAINED), and, where it
abandons no read, the track, bins, gates, last reservation and counters. Jam cause and jam cell stand (R148). -/
structure StepFrame (s u : State) : Prop where
  frame   : u =
    { s with
      pos := s.pos + 1, gap := s.gap - 1, stallTimer := { count := 0, dormant := false }
      line := if s.line = .standby then .idle else s.line
      headHigh := (headsStepped s).headHigh, headLow := (headsStepped s).headLow
      release := u.release, track := u.track, read := u.read, training := u.training, baselines := u.baselines
      lastRes := u.lastRes, gateOut := u.gateOut, gates := u.gates, bins := u.bins, live := u.live
      portF := flagged s.portF u.portF.flags
      portS := flagged s.portS (s.portS.flags ||| saturation s u) }
  release : ReleaseStepped s u
  notices : (Misses s → u.portF.flags ||| 8 = s.portF.flags ||| 10) ∧
    (¬ Misses s → u.portF.flags ||| 8 = s.portF.flags ||| 8)
  belt    : ¬ Trains s → u.baselines = s.baselines ∧ u.portF.flags.getLsbD 3 = s.portF.flags.getLsbD 3 ∧
    u.training = if s.line = .standby then Vector.replicate 8 0 else s.training
  reader  : Trains s ∨ ¬ Moving s → u.read = s.read
  marks   : u.tally .cancelled = (headsStepped s).tally .cancelled
  missed  : (Misses s → u.tally .feedMisses = raised s .feedMisses 1) ∧
    (¬ Misses s → u.tally .feedMisses = s.tally .feedMisses)
  counted : Unabandoned s → ∀ v, v ≠ .cancelled → v ≠ .feedMisses → u.tally v = s.tally v
  track   : Unabandoned s → u.track = (headsStepped s).track ∧ u.bins = s.bins
  gates   : Unabandoned s → u.lastRes = retiredAt s.lastRes (s.pos + 1) ∧
    ∀ k : Fin 6, u.gates[k] = gateStepped s.gates[k] (s.pos + 1)

/-- A head after a jam (R107). -/
def headAtJam (d : Head) : Head :=
  { state := if d.state = .offline then .offline else .free, active := none, pending := none, latch := 0,
    strobe := false }

/-- The Feed port after a jam: a RELEASE or DRAIN in flight has ended with JAMMED (R45), and the JAM notice is up (R148). -/
def feedAtJam (p : Port) : Port :=
  let ended (call : Bool) : Port := { p with inFlight := none, code := .jammed, xdone := true, xcall := call }
  match p.inFlight with
  | some { kind := .release, call := call } => flagged (ended call) (p.flags ||| 1)
  | some { kind := .drain, call := call } => flagged (ended call) (p.flags ||| 1)
  | _ => flagged p (p.flags ||| 1)

/-- What a jam with a cause and a cell makes of `s`, before what it completes: the records held, the one being read with its
length (R26, R71), the marks settled and counted (R107), JAM raised and no other notice of the Feed and Print ports (R107,
R148), and a LOAD MARK past its reference wait (R117) once it is completed. Nothing else changes (R149). -/
structure JamOutcome (s u : State) (cause : JamCause) (cell : Cell) : Prop where
  frame    : u =
    { s with
      line := .jammed, jamCause := cause, jamCell := some cell, release := .none, read := .idle
      track := s.track.map fun r =>
        { r with stage := .held, next := none, lp := lengthAtJam s r, mark := markAtJam s r }
      headHigh := headAtJam s.headHigh, headLow := headAtJam s.headLow
      gates := Vector.replicate 6 { isOpen := false, windows := [], hold := none }
      stallTimer := { count := 0, dormant := false }, live := u.live, portF := feedAtJam s.portF
      portP := flagged s.portP (s.portP.flags ||| 1)
      portS := flagged s.portS (s.portS.flags ||| 1 ||| saturation s u) }
  jams     : u.tally .jams = raised s .jams 1
  counted  : u.tally .incompleteMarks = gained s .incompleteMarks (headsAt s .marking) ∧
    u.tally .cancelled = gained s .cancelled (headsAt s .recovering) ∧
    u.tally .strayEdges = gained s .strayEdges (if cause = .stray then 1 else 0) ∧
    ∀ v, v ∉ [Tally.jams, .strayEdges, .incompleteMarks, .cancelled] → u.tally v = s.tally v
  load     : NothingHeld s → ∀ l call, s.portP.inFlight = some { kind := .loadMark l, call := call } →
    u.settle.portP.inFlight = some
      { kind := .loadMark (if l.phase = .wait then { l with phase := .block l.count 0 none } else l), call := call }

end Sys2Proof.Claims

/-- R1, R14, R41, R51: in every line state an encoder step moves the position on by one modulo 65536, lowers the gap counter
unless it is 0, and restarts the stall timer; it leaves the levels, occupants, tags, parameters, sort plan, snapshot,
throughput and operand rings. In STANDBY the step wakes the line to IDLE with every training count 0, and is no training
step (R51, R58). In every line state, but where it jams the line (MissingRecordJamsTheLine), it takes both heads through
their schedules at the new position, with the marks they count (R91 to R95). It retires a passed last reservation in every
line state (R86), brings each tray gate up to date (R127), moves the flip gate output in RUNNING and DRAINING to the
setting of the PLANNED windows that hold the position, and nowhere else (R84), and counts a feed miss when the position
passes the arrival window of a grant (R43), whose release state becomes WAITING where a RELEASE is behind it and NONE
otherwise (R36). In JAMMED, and in IDLE with R BLOCKED, the step leaves baselines, training counts and read alone (R46,
R53, R55, R151). Every other counter, notice and field stands (StepFrame). Then, within the step, a waiting RELEASE meets
the permit (R39), and a DRAIN, SWAP TRAY or reference wait whose condition the step meets ends (R43, R49, R117, R130). The
plan of an abandoned read is AbandonedReadIsPlannedOverlength's. -/
def Obligations.EncoderStepMovesThePosition : Prop :=
  ∀ (s : State) (z : Samples), ∃ u : State, exec (.encoderStep z) s = .next u.settle ∧
    u.pos = s.pos + 1 ∧ u.gap = s.gap - 1 ∧ u.stallTimer = { count := 0, dormant := false } ∧
    u.track.map (fun r => r.tag) = s.track.map (fun r => r.tag) ∧
    u.cells = s.cells ∧ u.iOcc = s.iOcc ∧ u.rOcc = s.rOcc ∧ u.nextTag = s.nextTag ∧ u.params = s.params ∧
    u.sort = s.sort ∧ u.store = s.store ∧ u.snapshot = s.snapshot ∧ u.throughput = s.throughput ∧
    u.resetCause = s.resetCause ∧ u.resetLevel = s.resetLevel ∧ u.pending = s.pending ∧ u.freeCount = s.freeCount ∧
    (s.line = .standby →
      u.line = .idle ∧ (∀ i : Fin 8, u.training[i] = 0) ∧ u.baselines = s.baselines ∧ u.read = s.read) ∧
    (s.line = .jammed ∨ s.line = .idle ∧ s.cells[(1 : Fin 11)] = .blocked →
      u.baselines = s.baselines ∧ u.training = s.training ∧ u.read = s.read) ∧
    (∀ c, (u.bin c).count = (s.bin c).count ∧ (u.bin c).capacity = (s.bin c).capacity ∧
      (u.bin c).state = (s.bin c).state ∧ (Unabandoned s → (u.bin c).bound = (s.bin c).bound)) ∧
    (¬ Moving s ∨ NoneMissing s → StepFrame s u ∧ Completes s u) ∧
    (Unabandoned s → u.lastRes = retiredAt s.lastRes (s.pos + 1)) ∧
    (¬ Moving s → u.gateOut = s.gateOut) ∧
    (Moving s → NoneMissing s →
      ((∀ r ∈ u.track, ∀ st, ¬ Asks r (s.pos + 1) st) → u.gateOut = s.gateOut) ∧
      ∀ st, (∃ r ∈ u.track, Asks r (s.pos + 1) st) → (∀ r ∈ u.track, ∀ v, Asks r (s.pos + 1) v → v = st) →
        u.gateOut = st) ∧
    ∀ x, (u.port x).held = (s.port x).held ∧ (u.port x).ring = (s.port x).ring ∧ (u.port x).mask = (s.port x).mask ∧
      (u.port x).out = (s.port x).out

/-- R46, R47, R55: a step with R CLEAR, in IDLE, or in RUNNING or DRAINING with no record missing, adds floor((16 s − B16)
/ 8) to each baseline from its own sample, raises each training count towards 64, and raises TRAINED (bit 3 of the Feed
flags) exactly when the counts come from 63 to 64. What else such a step does is StepFrame's. -/
def Obligations.TrainingStepAdjustsTheBaselines : Prop :=
  ∀ (s : State) (z : Samples), s.cells[(1 : Fin 11)] = .clear →
    s.line = .idle ∨ Moving s ∧ NoneMissing s → ∃ u : State, exec (.encoderStep z) s = .next u.settle ∧
      (∀ i : Fin 8, (u.baselines[i] : Int) =
        (s.baselines[i] : Int) + Int.fdiv (16 * (z[i].toNat : Int) - s.baselines[i]) 8) ∧
      (∀ i : Fin 8, u.training[i] = min (s.training[i] + 1) 64) ∧ u.read = s.read ∧
      ((∀ i : Fin 8, s.training[i] = 63) → u.portF.flags.getLsbD 3 = true) ∧
      (∀ n, (∀ i : Fin 8, s.training[i] = n) → n < 63 ∨ n = 64 →
        u.portF.flags.getLsbD 3 = s.portF.flags.getLsbD 3) ∧ StepFrame s u

/-- R11, R148, R149: a step in RUNNING or DRAINING at which a record's window has been passed jams the line with cause
MISSING and, for cell, the next checkpoint of the oldest missing record; Stray edges, baselines, training counts and the
flip gate output stand, and no head puts out a column. The last reservation is kept, and retired once passed (R86,
R90). -/
def Obligations.MissingRecordJamsTheLine : Prop :=
  ∀ (s : State) (z : Samples) (older younger : List Record) (r : Record) (x : Cell),
    Moving s → s.track = older ++ r :: younger → (∀ q ∈ older, ¬ MissingAt s (s.pos + 1) q) → r.next = some x →
    MissingAt s (s.pos + 1) r → ∃ u : State, exec (.encoderStep z) s = .next u.settle ∧
      JamOutcome { s with pos := s.pos + 1, gap := s.gap - 1, lastRes := retiredAt s.lastRes (s.pos + 1) } u .missing x

/-- R62: a step in RUNNING or DRAINING with R BLOCKED while a read is SAMPLING raises the step count; while the count is
within the latched MaxPiece each channel's sample is judged at the offset before it with the excess s − b − T. R69: while
the read is OVERRUN such a step raises its step count, which stays at 65535. R53: with no read the step does neither. In
all three the baselines and training counts stand, and every counter but those of heads and grant: a channel that floods is
counted when its read ends (R67). What else such a step does is StepFrame's. (The step that takes the count above MaxPiece is in
AbandonedReadIsPlannedOverlength.) -/
def Obligations.ReadSampleStepJudgesTheChannels : Prop :=
  ∀ (s : State) (z : Samples), Moving s → NoneMissing s → s.cells[(1 : Fin 11)] = .blocked →
    ∃ u : State, exec (.encoderStep z) s = .next u.settle ∧ u.baselines = s.baselines ∧ u.training = s.training ∧
      (∀ r ch, s.read = .sampling r ch → r.count < r.latched.maxPiece →
        u.read = .sampling { r with count := r.count + 1 } (Vector.ofFn fun i =>
          let p := if i.val < 4 then r.latched.tag else r.latched.meter
          ch[i].sample p r.count ((z[i].toNat : Int) - ((s.baselines[i] + 8) / 16 : Nat) - p.t))) ∧
      (∀ r, s.read = .overrun r → u.read = .overrun { r with count := min (r.count + 1) 65535 }) ∧
      (s.read = .idle → u.read = .idle) ∧ StepFrame s u

/-! ### Edges -/

/-- R3, R13: a change to the level a cell already has is no edge; a lead edge counts as stray and does nothing else in IDLE
and STANDBY, and nothing in JAMMED; a trail edge does nothing in IDLE, STANDBY and JAMMED, at a cell other than I and R,
and at I or R without an occupant. The last level is taken in every line state. (An edge command at a cell already at its
level is the model's reading, notes/assumptions/3.md.) -/
def Obligations.EdgesWithoutAnEffectTakeTheLevel : Prop :=
  ∀ (s : State) (x : Cell),
    (s.level x = .blocked → exec (.leadEdge x) s = .next s.settle) ∧
    (s.level x = .clear → Resting s →
      exec (.leadEdge x) s = .next ((seen s x .blocked).bump .strayEdges).settle) ∧
    (s.level x = .clear → s.line = .jammed → exec (.leadEdge x) s = .next (seen s x .blocked).settle) ∧
    (s.level x = .clear → exec (.trailEdge x) s = .next s.settle) ∧
    (s.level x = .blocked → ¬ Moving s → exec (.trailEdge x) s = .next (seen s x .clear).settle) ∧
    (s.level x = .blocked → x ≠ .i → x ≠ .r → exec (.trailEdge x) s = .next (seen s x .clear).settle) ∧
    (s.level x = .blocked → x = .i → s.iOcc = none → exec (.trailEdge x) s = .next (seen s x .clear).settle) ∧
    (s.level x = .blocked → x = .r → s.rOcc = none → exec (.trailEdge x) s = .next (seen s x .clear).settle)

/-- R10, R44, R148, R149: in RUNNING and DRAINING a lead edge at I with no grant outstanding, and a lead edge at another
cell that no record expects or whose oldest expecting record's window has not begun (R6), is stray: Stray edges rises by
one and the line jams with cause STRAY and that cell. The last reservation is kept (R90). -/
def Obligations.StrayEdgeJamsTheLine : Prop :=
  ∀ (s : State) (x : Cell), Moving s → s.level x = .clear →
    (x = .i ∧ (s.release = .none ∨ s.release = .waiting) ∨
      x ≠ .i ∧ ((∀ r ∈ s.track, r.next ≠ some x) ∨
        ∃ older r younger, s.track = older ++ r :: younger ∧ (∀ q ∈ older, q.next ≠ some x) ∧ r.next = some x ∧
          atOrAfter s.pos (r.anchor + BitVec.ofNat 16 (cellPosition s.params.geo x) -
            BitVec.ofNat 16 s.params.geo.tol) = false)) →
    ∃ u : State, exec (.leadEdge x) s = .next u.settle ∧ JamOutcome (seen s x .blocked) u .stray x

/-- R19, R20, R42: a lead edge at I within the arrival window of a grant appends a record that takes the next tag, at stage
INDUCTING, next checkpoint R, anchor the position; the next-tag counter goes on past every tag the track carries; the I
occupant, Inducted, the interval's count and the release state follow. -/
def Obligations.LetterArrivesOnItsGrant : Prop :=
  ∀ (s : State) (g : Pos), Moving s → s.level .i = .clear → s.release = .granted g → TrackSound s →
    s.params.geo.arrivalLimit ≤ 4000 → distance g s.pos ≤ s.params.geo.arrivalLimit →
    ∃ n : Tag,
      let track := s.track ++ [{ tag := s.nextTag, stage := .inducting, next := some .r, anchor := s.pos }]
      (∀ r ∈ track, r.tag ≠ n) ∧
      (∀ k : Nat, 1 ≤ k → k < (n - s.nextTag).toNat → ∃ r ∈ track, r.tag = s.nextTag + BitVec.ofNat 8 k) ∧
      exec (.leadEdge .i) s = .next (State.settle (State.bump
        { seen s .i .blocked with
          track := track, nextTag := n, iOcc := some s.nextTag
          release := if s.flight .feed = some .release then .waiting else .none
          throughput := { s.throughput with count := min (s.throughput.count + 1) 65535 } } .inducted))

/-- R7, R8, R61: a lead edge at R matched to the oldest record that expects R sets its anchor to the position less P_R,
counts a re-anchor where that moves it, and starts its read: SAMPLING with the parameters latched, count 0, every channel
NO RUN; the record is READING with next checkpoint T and is the R occupant. (A window already passed, which R11 excludes,
is matched as well: notes/assumptions/17.md; so in the next two.) Line state, release state and commands in flight stand,
but for what the event completes or grants (Completes); so in the next. -/
def Obligations.MatchedEdgeAtRStartsTheRead : Prop :=
  ∀ (s : State) (older younger : List Record) (r : Record), Moving s → s.level .r = .clear →
    TrackSound s → s.track = older ++ r :: younger → (∀ q ∈ older, q.next ≠ some .r) → r.next = some .r →
    atOrAfter s.pos (r.anchor + BitVec.ofNat 16 s.params.geo.pR - BitVec.ofNat 16 s.params.geo.tol) = true →
    r.gate = none → r.bin = none → r.mark = none →
    let a := s.pos - BitVec.ofNat 16 s.params.geo.pR
    ∃ u : State, exec (.leadEdge .r) s = .next u.settle ∧
      u =
        { seen s .r .blocked with
          track := older ++ { r with anchor := a, stage := .reading, next := some .t } :: younger
          read := .sampling
            { tag := r.tag, count := 0
              latched := { tag := s.params.detTag, meter := s.params.detMeter, maxPiece := s.params.geo.maxPiece,
                           minPiece := s.params.geo.minPiece } }
            (Vector.replicate 8 { run := none, best := none, flooded := false })
          rOcc := some r.tag, live := u.live
          portS := flagged s.portS (s.portS.flags ||| saturation s u) } ∧
      u.tally .reAnchors = (if a = r.anchor then s.tally .reAnchors else raised s .reAnchors 1) ∧
      (∀ v, v ≠ .reAnchors → u.tally v = s.tally v) ∧ Completes s u

namespace Sys2Proof.Claims

/-- The flip gate window of record `r`, which becomes `q`, and the last reservation after a re-anchor by `d` (R9, R86,
R87). -/
structure FlipAfterReAnchor (s t : State) (r q : Record) (d : Pos) : Prop where
  absent : r.gate = none → q.gate = none ∧ t.lastRes = s.lastRes
  window : ∀ g, r.gate = some g → ∃ w, q.gate = some { g with win := w } ∧
    FlipMoved g.win w s.pos d (∃ l, s.lastRes = some l ∧ l.holder = r.tag) (Rival s r.tag g.setting) ∧
    ∀ l, s.lastRes = some l → l.holder = r.tag → l.win = g.win →
      (passed l.win s.pos = false ∧ passed w s.pos = true → t.lastRes = none) ∧
      (passed l.win s.pos = true ∨ passed w s.pos = false → t.lastRes = some { l with win := w })
  other  : (∀ l, s.lastRes = some l → l.holder ≠ r.tag) → t.lastRes = s.lastRes

/-- The reservation is the one the record of tag `t` made (R91, R103). -/
def MadeBy (a : Reservation) (t : Tag) : Prop := a.linked = true ∧ a.holder = t

/-- A reservation moved by `d` (R102). -/
def along (a : Reservation) (d : Pos) : Reservation :=
  { a with first := a.first + d, last := a.last + d, free := a.free + d }

/-- The mark is kept at a re-anchor, and no conflict is counted (R102). -/
def MarkKept (s t : State) (r q : Record) : Prop :=
  q.mark = r.mark ∧ t.tally .uncancelledConflict = s.tally .uncancelledConflict ∧ t.portP.flags = s.portP.flags

/-- The mark is dropped at a re-anchor: UNCANCELLED CONFLICT, counted, with HEAD CONFLICT at the Print port (R102). -/
def MarkDropped (s t : State) (q : Record) : Prop :=
  q.mark = some (.uncancelled .conflict) ∧ t.tally .uncancelledConflict = raised s .uncancelledConflict 1 ∧
    t.portP.flags = s.portP.flags ||| 2

/-- The heads and the mark of record `r`, which becomes `q`, after a re-anchor by `d` (R102): the record's own reservation
moves in its slot, or is dropped where the Pending would begin before the Active is free. -/
structure MarkAfterReAnchor (s t : State) (r q : Record) (d : Pos) : Prop where
  other : ∀ h, r.mark ≠ some (.scheduled h) → t.head h = s.head h
  unset : (∀ h, r.mark ≠ some (.scheduled h)) → MarkKept s t r q
  elsewhere : ∀ h, r.mark = some (.scheduled h) → (∀ a, (s.head h).active = some a → ¬ MadeBy a r.tag) →
    (∀ p, (s.head h).pending = some p → ¬ MadeBy p r.tag) → t.head h = s.head h ∧ MarkKept s t r q
  alone : ∀ h a, r.mark = some (.scheduled h) → (s.head h).active = some a → MadeBy a r.tag →
    (s.head h).pending = none →
    t.head h = { s.head h with active := some (along a d) } ∧ MarkKept s t r q
  ahead : ∀ h a p, r.mark = some (.scheduled h) → (s.head h).active = some a → MadeBy a r.tag →
    (s.head h).pending = some p →
    (isBefore p.first (a.free + d) = false →
      t.head h = { s.head h with active := some (along a d) } ∧ MarkKept s t r q) ∧
    (isBefore p.first (a.free + d) = true →
      t.head h = { s.head h with active := some p, pending := none } ∧ MarkDropped s t q)
  behind : ∀ h a p, r.mark = some (.scheduled h) → (s.head h).active = some a → ¬ MadeBy a r.tag →
    (s.head h).pending = some p → MadeBy p r.tag →
    (isBefore (p.first + d) a.free = false →
      t.head h = { s.head h with pending := some (along p d) } ∧ MarkKept s t r q) ∧
    (isBefore (p.first + d) a.free = true →
      t.head h = { s.head h with pending := none } ∧ MarkDropped s t q)

end Sys2Proof.Claims

/-- R7, R8: a lead edge at T or C matched to the oldest record that expects it sets the record's anchor to the position
less the cell's place and moves its next checkpoint on, from T to C and from C to its bin's cell; a re-anchor is counted
where the anchor moves, and where it does not nothing else changes. Where it moves, the record's plan moves with it: its
flip gate window (R9, R87; how a limit is found where several windows stand in the way is notes/assumptions/21.md) and,
with it, the last reservation if the record holds it, which is retired in the event when its to comes to lie before the
position (R86); its tray gate window (R9, R126); and its mark's reservation, which is dropped with HEAD CONFLICT where the
moved one fails its check against the other slot (R102). -/
def Obligations.MatchedEdgeAtTAndCReAnchors : Prop :=
  ∀ (s : State) (x : Cell) (older younger : List Record) (r : Record) (b : Bin),
    Moving s → x = .t ∨ x = .c → s.level x = .clear → TrackSound s → s.track = older ++ r :: younger →
    (∀ q ∈ older, q.next ≠ some x) → r.next = some x → r.bin = some b →
    atOrAfter s.pos (r.anchor + BitVec.ofNat 16 (cellPosition s.params.geo x) -
      BitVec.ofNat 16 s.params.geo.tol) = true →
    let a := s.pos - BitVec.ofNat 16 (cellPosition s.params.geo x)
    let next := if x = .t then some Cell.c else match b with | .endTray => some .e | .tray k => some (.b k)
    (a = r.anchor →
      exec (.leadEdge x) s =
        .next (State.settle { seen s x .blocked with track := older ++ { r with next := next } :: younger })) ∧
    (a ≠ r.anchor → ∃ (u : State) (q : Record), exec (.leadEdge x) s = .next u.settle ∧
      u =
        { seen s x .blocked with
          track := older ++ q :: younger, gates := u.gates, lastRes := u.lastRes, headHigh := u.headHigh
          headLow := u.headLow, live := u.live, portP := flagged s.portP u.portP.flags
          portS := flagged s.portS (s.portS.flags ||| saturation s u) } ∧
      q = { r with anchor := a, next := next, gate := q.gate, mark := q.mark } ∧
      FlipAfterReAnchor s u r q (a - r.anchor) ∧
      (∀ j : Fin 6, u.gates[j] =
        if b = .tray j then gateMoved s.gates[j] r.tag s.pos (a - r.anchor) else s.gates[j]) ∧
      MarkAfterReAnchor s u r q (a - r.anchor) ∧
      u.tally .reAnchors = raised s .reAnchors 1 ∧
      (∀ v, v ≠ .reAnchors → v ≠ .uncancelledConflict → u.tally v = s.tally v) ∧ Completes s u)

namespace Sys2Proof.Claims

/-- The heads after the arrival of record `r` (R103). -/
structure MarkAfterArrival (s t : State) (r : Record) : Prop where
  other    : ∀ h, r.mark ≠ some (.scheduled h) → t.head h = s.head h
  unset    : (∀ h, r.mark ≠ some (.scheduled h)) →
    t.tally .incompleteMarks = s.tally .incompleteMarks ∧ t.portP.flags = s.portP.flags
  elsewhere : ∀ h, r.mark = some (.scheduled h) → (∀ a, (s.head h).active = some a → ¬ MadeBy a r.tag) →
    (∀ p, (s.head h).pending = some p → ¬ MadeBy p r.tag) →
    t.head h = s.head h ∧ t.tally .incompleteMarks = s.tally .incompleteMarks ∧ t.portP.flags = s.portP.flags
  finished : ∀ h a, r.mark = some (.scheduled h) → (s.head h).active = some a → MadeBy a r.tag →
    (s.head h).state = .recovering →
    t.head h = { s.head h with active := some { a with linked := false } } ∧
      t.tally .incompleteMarks = s.tally .incompleteMarks ∧ t.portP.flags = s.portP.flags
  due      : ∀ h a, r.mark = some (.scheduled h) → (s.head h).active = some a → MadeBy a r.tag →
    (s.head h).state ≠ .recovering →
    t.head h =
        { s.head h with
          active := some { a with linked := false, cut := true }
          state := if (s.head h).state = .marking then .recovering else (s.head h).state } ∧
      t.tally .incompleteMarks = raised s .incompleteMarks 1 ∧ t.portP.flags = s.portP.flags ||| 4
  behind   : ∀ h p, r.mark = some (.scheduled h) → (∀ a, (s.head h).active = some a → ¬ MadeBy a r.tag) →
    (s.head h).pending = some p → MadeBy p r.tag →
    t.head h = { s.head h with pending := some { p with linked := false, cut := true } } ∧
      t.tally .incompleteMarks = raised s .incompleteMarks 1 ∧ t.portP.flags = s.portP.flags ||| 4

/-- The arrival makes its bin FULL (R129). -/
def Fills (e : BinEntry) : Prop := e.state = .available ∧ e.capacity ≤ min (e.count + 1) 65535

/-- A bin after an arrival (R129). -/
def arrivedBin (e : BinEntry) : BinEntry :=
  { e with
    count := min (e.count + 1) 65535, bound := e.bound - 1
    state := if e.state = .available ∧ e.capacity ≤ min (e.count + 1) 65535 then .full else e.state }

/-- The read state names the record of tag `t`. -/
def ReadOf (s : State) (t : Tag) : Prop :=
  (∃ d ch, s.read = .sampling d ch ∧ d.tag = t) ∨ ∃ d, s.read = .overrun d ∧ d.tag = t

/-- The tray gates after the arrival of record `r` at the cell of its bin `b` (R126 to R128). -/
structure GatesAfterArrival (s t : State) (r : Record) (b : Bin) : Prop where
  other    : ∀ j : Fin 6, b ≠ .tray j → t.gates[j] = s.gates[j]
  unlisted : ∀ j : Fin 6, b = .tray j → (∀ w ∈ s.gates[j].windows, w.holder ≠ r.tag) →
    t.gates[j] = upToDate s.gates[j] s.pos
  listed   : ∀ (j : Fin 6) older w younger q, b = .tray j → s.gates[j].windows = older ++ w :: younger →
    (∀ v ∈ older ++ younger, v.holder ≠ r.tag) → w.holder = r.tag →
    w.win.toPos = some q ∨
      w.win.toPos = none ∧ (∃ d, s.read = .overrun d ∧ d.tag = r.tag ∧
        q = r.anchor + BitVec.ofNat 16 (s.params.geo.pG[j] + d.count + s.params.geo.gateHold)) →
    t.gates[j] =
      upToDate { s.gates[j] with windows := older ++ younger, hold := some (heldUntil s.gates[j].hold q) } s.pos

end Sys2Proof.Claims

/-- R27, R129: a lead edge at a bin cell matched to the oldest record that expects it is that record's arrival: the bin's
bound falls and its count rises, its arrival counter and Exited rise, the record leaves and the others keep their order,
and an occupant that names it becomes none. Its window, if its tray gate still lists it, leaves the list for the gate's
hold (R128), an open to of an OVERRUN read being closed at the step count first (R85, R128), and the read ends (R69; one
still SAMPLING, which R68 excludes, ends too: notes/assumptions/24.md). A bin that fills raises TRAY FULL (bit 1 of the
Supervisor flags), and bin 0 also TRAY FULL END (bit 4 of the Feed flags). The
reservation of its mark is unlinked and, where its last column is still due, cut, counted and told with MARK INCOMPLETE, a
MARKING head going on to RECOVERING (R103; the latch until the next step is notes/assumptions/23.md). The line state and
the commands in flight stand, but that the arrival which empties the track in DRAINING with release state NONE makes the
line IDLE and completes the DRAIN (R29, R49), the one that brings a SWAPPING bin's bound to 0 makes it WITHHELD and
completes the SWAP TRAY (R130), and one that opens the permit grants a waiting RELEASE (R39); the stall timer stops where
the track is empty and stands otherwise (R14). -/
def Obligations.ArrivalCountsAndRemovesTheRecord : Prop :=
  ∀ (s : State) (b : Bin) (older younger : List Record) (r : Record),
    let x : Cell := match b with | .endTray => .e | .tray k => .b k
    Moving s → s.level x = .clear → TrackSound s → s.track = older ++ r :: younger →
    (∀ q ∈ older, q.next ≠ some x) → r.next = some x →
    atOrAfter s.pos (r.anchor + BitVec.ofNat 16 (cellPosition s.params.geo x) -
      BitVec.ofNat 16 s.params.geo.tol) = true →
    ∃ u : State, exec (.leadEdge x) s = .next u.settle ∧
      u =
        { seen s x .blocked with
          track := older ++ younger
          iOcc := if s.iOcc = some r.tag then none else s.iOcc
          rOcc := if s.rOcc = some r.tag then none else s.rOcc
          stallTimer := if older ++ younger = [] then { count := 0, dormant := false } else s.stallTimer
          bins := s.bins.set (binNumber b) (arrivedBin s.bins[binNumber b])
          read := u.read, lastRes := u.lastRes, gates := u.gates, headHigh := u.headHigh, headLow := u.headLow
          live := u.live, portF := flagged s.portF u.portF.flags, portP := flagged s.portP u.portP.flags
          portS := flagged s.portS u.portS.flags } ∧
      (Fills (s.bin b) →
        u.portS.flags = s.portS.flags ||| 2 ||| saturation s u ∧
          u.portF.flags = s.portF.flags ||| (if b = .endTray then 16 else 0)) ∧
      (¬ Fills (s.bin b) →
        u.portS.flags = s.portS.flags ||| saturation s u ∧ u.portF.flags = s.portF.flags) ∧
      u.tally (.arrivals b) = raised s (.arrivals b) 1 ∧ u.tally .exited = raised s .exited 1 ∧
      (∀ v, v ≠ .arrivals b → v ≠ .exited → v ≠ .incompleteMarks → u.tally v = s.tally v) ∧
      MarkAfterArrival s u r ∧ (r.bin = some b → GatesAfterArrival s u r b) ∧ Completes s u ∧
      (ReadOf s r.tag → u.read = .idle) ∧ (¬ ReadOf s r.tag → u.read = s.read) ∧
      ((∀ d, s.read = .overrun d → d.tag ≠ r.tag) → u.lastRes = s.lastRes) ∧
      ∀ d, s.read = .overrun d → d.tag = r.tag → (s.lastRes = none → u.lastRes = none) ∧
        ∀ l, s.lastRes = some l → u.lastRes =
          if l.holder = r.tag ∧ l.win.toPos = none then
            some { l with win := { l.win with
              toPos := some (r.anchor + BitVec.ofNat 16 (s.params.geo.pF + d.count + s.params.geo.flipHold)) } }
          else some l

/-- R13, R21, R41: in RUNNING and DRAINING a trail edge at I with an occupant writes the occupant's induction length, moves
it from INDUCTING to TO_READ, loads the gap counter with MinGap and clears the occupant. -/
def Obligations.TrailEdgeAtIEndsTheInduction : Prop :=
  ∀ (s : State) (t : Tag), Moving s → s.level .i = .blocked → s.iOcc = some t →
    exec (.trailEdge .i) s = .next (State.settle
      { seen s .i .clear with
        iOcc := none, gap := s.params.geo.minGap
        track := s.track.map fun r =>
          if r.tag = t then
            { r with
              inductionLength := some (distance r.anchor s.pos)
              stage := if r.stage = .inducting then .toRead else r.stage }
          else r })

/-- R23, R67, R70, R73: in RUNNING and DRAINING a trail edge at R that names the record being read completes the read: each
channel's open run is closed and judged, Lp is the step count, the findings are the best candidates, Flooded pieces rises
once if a channel flooded, and the record is planned, SHORT below the latched MinPiece. The plan gives it its class (R77,
R79); the setting and window of R81 to R82 against the last reservation, which they replace, with Flipped or Turn conflicts
counted and the gate output following a window already begun (R84); the sort plan entry of its class, or of UNFACED on a
turn conflict (R89); a mark that is NONE exactly when none is wanted (R96), and otherwise what the cancel unit answers for
the offsets of C1, mirrored on TURN (R88; WantedMarkIsPlacedAndScheduled says what `requestMark` answers); and the bin of
R125 with its tray gate window (R126). Line state, release state and commands in flight stand, but for what the event
completes or grants (Completes). -/
def Obligations.TrailEdgeAtRCompletesTheRead : Prop :=
  ∀ (s : State) (older younger : List Record) (r : Record) (d : Reading) (ch : Vector Channel 8),
    Moving s → s.level .r = .blocked → TrackSound s → s.track = older ++ r :: younger → s.rOcc = some r.tag →
    s.read = .sampling d ch → d.tag = r.tag →
    let closed : Vector Channel 8 :=
      Vector.ofFn fun i => ch[i].closeRun (if i.val < 4 then d.latched.tag else d.latched.meter)
    let found : Vector (Option Candidate) 8 := Vector.ofFn fun i => closed[i].best
    let k := classify (if d.count < d.latched.minPiece then .short else .inRange) found d.count
    let plan := gatePlan s s.lastRes r.anchor k.orient (some d.count)
    let e := routing s k.cls plan.2
    ∃ (u : State) (m : Mark) (b : Bin), exec (.trailEdge .r) s = .next u.settle ∧
      u =
        { seen s .r .clear with
          track := older ++
            { r with
              stage := .planned, lp := some d.count, findings := some found, cls := some k.cls, orient := k.orient
              gate := some plan.1, conflict := some plan.2, mark := some m, bin := some b } :: younger
          read := .idle, rOcc := none
          lastRes := some { holder := r.tag, setting := plan.1.setting, win := plan.1.win }
          gateOut := if within plan.1.win s.pos = true then plan.1.setting else s.gateOut
          headHigh := u.headHigh, headLow := u.headLow, store := u.store, bins := u.bins, gates := u.gates
          live := u.live, portP := flagged s.portP u.portP.flags
          portS := flagged s.portS (s.portS.flags ||| saturation s u) } ∧
      (¬ Wanted k.cls plan.2 e → m = .none ∧ SameMarks s u) ∧
      (Wanted k.cls plan.2 e → m ≠ .none ∧ ∀ o c, k.orient = some o → k.c1 = some c →
        let v := s.requestMark (handed r o e plan.1.setting c d.count)
        SameMarks v u ∧ ∀ q ∈ v.track, q.tag = r.tag → q.mark = some m) ∧
      BoundTo s u e b ∧ GatesBound s u b r (some d.count) ∧
      u.tally .floodedPieces =
        (if ∃ i : Fin 8, closed[i].flooded = true then raised s .floodedPieces 1 else s.tally .floodedPieces) ∧
      u.tally (.cls k.cls) = raised s (.cls k.cls) 1 ∧
      u.tally .turnConflicts = gained s .turnConflicts (if plan.2 then 1 else 0) ∧
      u.tally .flipped = gained s .flipped (if plan.2 = false ∧ plan.1.setting = .turn then 1 else 0) ∧
      (∀ v, v ∉ [Tally.floodedPieces, .cls k.cls, .flipped, .turnConflicts, .uncancelledConflict, .uncancelledOffline] →
        u.tally v = s.tally v) ∧
      Completes s u

/-- R69, R85: in RUNNING and DRAINING a trail edge at R of an OVERRUN read fixes Lp at the step count and closes the
record's open flip gate window, and the last reservation's if the record holds it, at anchor + P_F + Lp + FlipHold, and
its open tray gate window at anchor + P_Gk + Lp + GateHold (R128). Line state, release state and commands in flight stand,
but for what the event completes or grants (Completes). -/
def Obligations.OverrunTrailEdgeFixesTheLength : Prop :=
  ∀ (s : State) (older younger : List Record) (r : Record) (g : GatePlan) (d : Reading), Moving s →
    s.level .r = .blocked → TrackSound s → s.track = older ++ r :: younger → s.rOcc = some r.tag → s.read = .overrun d →
    d.tag = r.tag → r.gate = some g → g.win.toPos = none →
    let close := r.anchor + BitVec.ofNat 16 (s.params.geo.pF + d.count + s.params.geo.flipHold)
    ∃ u : State, exec (.trailEdge .r) s = .next u.settle ∧
      u =
        { seen s .r .clear with
          track := older ++
            { r with lp := some d.count, gate := some { g with win := { g.win with toPos := some close } } } :: younger
          read := .idle, rOcc := none, lastRes := u.lastRes, gates := u.gates } ∧
      (∀ l, s.lastRes = some l → l.holder = r.tag → l.win.toPos = none →
        u.lastRes = some { l with win := { l.win with toPos := some close } }) ∧
      (∀ l, s.lastRes = some l → l.holder ≠ r.tag ∨ l.win.toPos ≠ none → u.lastRes = some l) ∧
      (s.lastRes = none → u.lastRes = none) ∧
      (∀ j : Fin 6, u.gates[j] =
        if r.bin = some (.tray j) then
          gateClosed s.gates[j] r.tag
            (r.anchor + BitVec.ofNat 16 (s.params.geo.pG[j] + d.count + s.params.geo.gateHold)) s.pos
        else s.gates[j]) ∧
      Completes s u

/-! ### The stamp reader -/

/-- R63 to R66: a lit step (excess 1 or more) opens a run or extends it, with the score stopped at 65535; an unlit step adds
one to an open run's gap, and closes the run when the gap exceeds G; without a run it has no effect. A run that closes
leaves the channel without one; with length last − start + 1 it is ignored below Lmin, floods the channel above Lmax, and
otherwise, with a score of at least Smin, is the best candidate if there is none yet or its score is higher. -/
def Obligations.RunsGrowCloseAndAreJudged : Prop :=
  (∀ (c : Channel) (p : Detector) (o : Nat) (e : Int),
    (1 ≤ e → c.run = none → c.sample p o e = { c with run := some ⟨o, o, e.toNat, 0⟩ }) ∧
    (∀ r, 1 ≤ e → c.run = some r →
      c.sample p o e = { c with run := some ⟨r.start, o, min (r.score + e.toNat) 65535, 0⟩ }) ∧
    (e ≤ 0 → c.run = none → c.sample p o e = c) ∧
    (∀ r, e ≤ 0 → c.run = some r → r.gap + 1 ≤ p.g →
      c.sample p o e = { c with run := some { r with gap := r.gap + 1 } }) ∧
    (∀ r, e ≤ 0 → c.run = some r → p.g < r.gap + 1 → c.sample p o e = c.closeRun p)) ∧
  ∀ (c : Channel) (p : Detector) (r : Run), c.run = some r →
    let length := r.last - r.start + 1
    (length < p.lmin → c.closeRun p = { c with run := none }) ∧
    (p.lmin ≤ length → p.lmax < length → c.closeRun p = { c with run := none, flooded := true }) ∧
    (p.lmin ≤ length → length ≤ p.lmax → r.score < p.smin → c.closeRun p = { c with run := none }) ∧
    (p.lmin ≤ length → length ≤ p.lmax → p.smin ≤ r.score → (∀ b, c.best = some b → b.score < r.score) →
      c.closeRun p = { c with run := none, best := some ⟨r.start, r.last, r.score⟩ }) ∧
    (∀ b, p.lmin ≤ length → length ≤ p.lmax → p.smin ≤ r.score → c.best = some b → r.score ≤ b.score →
      c.closeRun p = { c with run := none })

namespace Sys2Proof.Claims

/-- Record `r` as the abandonment of its read plans it: OVERLENGTH, no orientation, its gate plan, mark NONE, bound to `b`;
Lp stays absent (R25, R68, R83). -/
def abandoned (r : Record) (closed : Vector Channel 8) (plan : GatePlan × Bool) (b : Bin) : Record :=
  { r with
    stage := .planned, findings := some (Vector.ofFn fun i => closed[i].best), cls := some .overlength, orient := none
    gate := some plan.1, conflict := some plan.2, mark := some .none, bin := some b }

/-- What an abandonment changes besides its record: the read is OVERRUN, the gate plan is the last reservation, its class and
a flooded piece are counted (R68, R83). -/
structure AbandonedRest (s t : State) (d : Reading) (r : Record) (closed : Vector Channel 8) (plan : GatePlan × Bool) :
    Prop where
  read      : t.read = .overrun d
  last      : t.lastRes = some { holder := r.tag, setting := plan.1.setting, win := plan.1.win }
  straight  : plan.1.setting = .straight ∧ plan.1.win.toPos = none
  flooded   : t.tally .floodedPieces =
    if ∃ i : Fin 8, closed[i].flooded = true then raised s .floodedPieces 1 else s.tally .floodedPieces
  counted   : t.tally (.cls .overlength) = raised s (.cls .overlength) 1 ∧
    t.tally .turnConflicts = gained s .turnConflicts (if plan.2 then 1 else 0)

end Sys2Proof.Claims

/-- R68: the encoder step in RUNNING or DRAINING, with R BLOCKED, that takes the step count of a SAMPLING read above the
latched MaxPiece abandons the read within the step: its samples are not judged, open runs are closed and judged, the
findings written, Flooded pieces raised once if a channel flooded, the read OVERRUN with its count, and the record planned
OVERLENGTH: no orientation, gate STRAIGHT with an open window, on a turn conflict from the position after the last
reservation (R83), mark NONE, Lp still absent, bound to the bin its entry leads to (R125) with an open tray gate window.
The ABANDONMENT row sent alone, on a read whose count stands above MaxPiece (which no run leaves), does the same at the
position as it stands: that is the model's choice (notes/assumptions/2.md). -/
def Obligations.AbandonedReadIsPlannedOverlength : Prop :=
  ∀ (s : State) (older younger : List Record) (r : Record) (d : Reading) (ch : Vector Channel 8),
    Moving s → s.level .r = .blocked → TrackSound s → s.track = older ++ r :: younger → s.read = .sampling d ch →
    d.tag = r.tag →
    let closed : Vector Channel 8 :=
      Vector.ofFn fun i => ch[i].closeRun (if i.val < 4 then d.latched.tag else d.latched.meter)
    (∀ z : Samples, NoneMissing s → d.latched.maxPiece ≤ d.count →
      (∀ h a, (s.head h).active = some a → ¬ MadeBy a r.tag) →
      let plan := gatePlan s (retiredAt s.lastRes (s.pos + 1)) r.anchor none none
      let e := routing s .overlength plan.2
      ∃ (u : State) (b : Bin), exec (.encoderStep z) s = .next u.settle ∧ StepFrame s u ∧
        u.track = ((headsStepped s).track.map fun q => if q.tag = r.tag then abandoned r closed plan b else q) ∧
        AbandonedRest s u { d with count := d.count + 1 } r closed plan ∧ BoundTo s u e b ∧
        (∀ j : Fin 6, u.gates[j] = gateStepped
          (if b = .tray j then
            { s.gates[j] with
              windows := s.gates[j].windows ++ [{ holder := r.tag, win := trayWindow s.params.geo r.anchor j none }] }
          else s.gates[j]) (s.pos + 1)) ∧
        ∀ v, v ∉ [Tally.floodedPieces, .cls .overlength, .turnConflicts, .cancelled, .feedMisses] →
          u.tally v = s.tally v) ∧
    (d.latched.maxPiece < d.count →
      let plan := gatePlan s s.lastRes r.anchor none none
      let e := routing s .overlength plan.2
      ∃ (u : State) (b : Bin), exec .abandonment s = .next u.settle ∧
        u =
          { s with
            track := older ++ abandoned r closed plan b :: younger, read := u.read, lastRes := u.lastRes
            gateOut := if within plan.1.win s.pos = true then plan.1.setting else s.gateOut
            bins := u.bins, gates := u.gates, live := u.live
            portS := flagged s.portS (s.portS.flags ||| saturation s u) } ∧
        AbandonedRest s u d r closed plan ∧ BoundTo s u e b ∧ GatesBound s u b r none ∧
        (∀ v, v ∉ [Tally.floodedPieces, .cls .overlength, .turnConflicts] → u.tally v = s.tally v) ∧ Completes s u)

/-! ### The facing planner -/

namespace Sys2Proof.Claims

/-- The four channels of a kind in channel order: R-HIGH, R-LOW, L-HIGH, L-LOW (4.1). -/
def findingAt (f : Vector (Option Candidate) 8) (k : Kind) (i : Fin 4) : Option Candidate :=
  match k with
  | .tag => f[(⟨i.val, by omega⟩ : Fin 8)]
  | .meter => f[(⟨i.val + 4, by omega⟩ : Fin 8)]

/-- The orientation code of a candidate on the `i`-th channel of a kind, for a letter of `lp` steps (R74, R75). -/
def codeAt (lp : Nat) (i : Fin 4) (c : Candidate) : OrientCode :=
  let leading : Bool := decide (2 * ((c.start + c.last) / 2) < lp)
  match i, leading with
  | 0, true => .faced ⟨.up, false⟩
  | 1, false => .faced ⟨.inv, false⟩
  | 2, false => .faced ⟨.up, true⟩
  | 3, true => .faced ⟨.inv, true⟩
  | _, _ => .unusual

/-- `c` on channel `i` is C1 of its kind: the highest score, the first in channel order of equals (R76). -/
def IsFirst (f : Vector (Option Candidate) 8) (k : Kind) (i : Fin 4) (c : Candidate) : Prop :=
  findingAt f k i = some c ∧
    ∀ j d, findingAt f k j = some d → d.score ≤ c.score ∧ (j < i → d.score < c.score)

/-- Some candidate of the kind has a code other than C1's and more than half its score (R76, R78). -/
def Rivalled (f : Vector (Option Candidate) 8) (lp : Nat) (k : Kind) (i : Fin 4) (c : Candidate) : Prop :=
  ∃ j d, findingAt f k j = some d ∧ codeAt lp j d ≠ codeAt lp i c ∧ c.score < 2 * d.score

/-- Two flip gate windows overlap (R82). -/
def Overlap (last new : Window) : Prop :=
  (∀ t, last.toPos = some t → atOrAfter t new.fromPos = true) ∧
    ∀ t, new.toPos = some t → atOrAfter t last.fromPos = true

end Sys2Proof.Claims

/-- R74 to R79: SHORT and OVERLENGTH by length alone; IN RANGE with no candidate UNFACED; else by C1 of the TAG kind, or of
the METER kind where no TAG channel has a candidate: AMBIGUOUS if a candidate with another code has more than half its
score, else UNUSUAL or the faced class of its code, with the code's orientation. -/
def Obligations.ClassFollowsFromTheFindings : Prop :=
  ∀ (f : Vector (Option Candidate) 8) (lp : Nat),
    ((classify .short f lp).cls = .short ∧ (classify .short f lp).orient = none) ∧
    ((classify .overlength f lp).cls = .overlength ∧ (classify .overlength f lp).orient = none) ∧
    ((∀ i : Fin 8, f[i] = none) → (classify .inRange f lp).cls = .unfaced ∧ (classify .inRange f lp).orient = none) ∧
    ∀ (k : Kind) (i : Fin 4) (c : Candidate), (k = .meter → ∀ j, findingAt f .tag j = none) → IsFirst f k i c →
      let r := classify .inRange f lp
      r.c1 = some c ∧
      (Rivalled f lp k i c → r.cls = .ambiguous ∧ r.orient = none) ∧
      (¬ Rivalled f lp k i c → codeAt lp i c = .unusual → r.cls = .unusual ∧ r.orient = none) ∧
      ∀ o, ¬ Rivalled f lp k i c → codeAt lp i c = .faced o →
        r.orient = some o ∧
          r.cls = (match k, o.facing with
            | .tag, .up => .stampedUp | .tag, .inv => .stampedInv
            | .meter, .up => .meteredUp | .meter, .inv => .meteredInv)

/-- R82, R83: with no last reservation, no overlap or the same setting, a record takes its needed setting and no conflict;
on overlap with another setting a record that is not OVERLENGTH inherits the last reservation's setting, and an OVERLENGTH
one stays STRAIGHT and begins after the last reservation's to; both have a turn conflict. -/
def Obligations.FlipGatePlanMeetsTheLastReservation : Prop :=
  ∀ (needed : Setting) (w : Window),
    (∀ overlength, planGate none needed w overlength = (⟨needed, w⟩, false)) ∧
    (∀ l overlength, ¬ Overlap l.win w ∨ l.setting = needed →
      planGate (some l) needed w overlength = (⟨needed, w⟩, false)) ∧
    (∀ l, Overlap l.win w → l.setting ≠ needed → planGate (some l) needed w false = (⟨l.setting, w⟩, true)) ∧
    (∀ l t, Overlap l.win w → l.setting = .turn → l.win.toPos = some t →
      planGate (some l) .straight w true = (⟨.straight, { w with fromPos := t + 1 }⟩, true))

/-! ### The cancel unit -/

namespace Sys2Proof.Claims

/-- The dots a head puts out at column step `k` of a reservation (R93). -/
def dotsOf (s : State) (h : HeadId) (r : Reservation) (k : Nat) : Dots :=
  let columns := s.store[r.slot].banks[r.bank].columns
  match h with
  | .high => (columns[r.leadClip + k]?).getD 0
  | .low => ((columns[r.cols - 1 - (r.leadClip + k)]?).getD 0).reverse

/-- A mark's outcome is written where the reservation is linked (R95, R105, R107). -/
def outcomeOf (s : State) (r : Reservation) (m : Mark) : State := if r.linked then s.setMark r.holder m else s

/-- HEAD OFFLINE settles the Active of a head (R105). -/
def offlineActive (st : HeadState) (s : State) (r : Reservation) : State :=
  if r.cut then s
  else if st = .marking then ((outcomeOf s r .incomplete).bump .incompleteMarks).raise .print .markIncomplete
  else if st = .recovering then (outcomeOf s r .done).bump .cancelled
  else (outcomeOf s r (.uncancelled .offline)).bump .uncancelledOffline

/-- HEAD OFFLINE settles the Pending of a head (R105). -/
def offlinePending (s : State) (r : Reservation) : State :=
  if r.cut then s else (outcomeOf s r (.uncancelled .offline)).bump .uncancelledOffline

/-- A slot's reservation settled, if there is one. -/
def settled (f : State → Reservation → State) (s : State) : Option Reservation → State
  | none => s
  | some r => f s r

/-- A head with empty slots and all dots off. -/
def bare (st : HeadState) : Head := { state := st, active := none, pending := none, latch := 0, strobe := false }

end Sys2Proof.Claims

/-- R92 to R95: what a head does at an encoder step, the position being the step's. OFFLINE or waiting it puts out nothing;
at the Active's first column it begins, with output unless the Active is cut or unlinked; MARKING it puts out the next
column and recovers after the last; RECOVERING it ends the Active at its free position, counts it and marks it DONE where
it is not cut, and moves the Pending up. (An unlinked reservation that is not cut, which R103 excludes before it begins, is
notes/assumptions/20.md.) -/
def Obligations.HeadStepsThroughItsSchedule : Prop :=
  ∀ (s : State) (h : HeadId),
    let d := s.head h
    let dark : Head := { d with latch := 0, strobe := false }
    (d.state = .offline ∨ d.active = none → s.stepHead h = s.setHead h dark) ∧
    ∀ r, d.active = some r →
      let column : Head := { d with latch := dotsOf s h r (distance r.first s.pos), strobe := true }
      (d.state = .free → r.first ≠ s.pos → s.stepHead h = s.setHead h dark) ∧
      (d.state = .free → r.first = s.pos → r.linked = true → r.cut = false →
        s.stepHead h = s.setHead h { column with state := if r.last = s.pos then .recovering else .marking }) ∧
      (d.state = .free → r.first = s.pos → r.linked = false ∨ r.cut = true →
        s.stepHead h = s.setHead h { dark with state := .recovering }) ∧
      (d.state = .marking →
        s.stepHead h = s.setHead h { column with state := if r.last = s.pos then .recovering else .marking }) ∧
      (d.state = .recovering → r.free ≠ s.pos → s.stepHead h = s.setHead h dark) ∧
      (d.state = .recovering → r.free = s.pos →
        let v := if r.cut then s else outcomeOf (s.bump .cancelled) r .done
        (d.pending = none → s.stepHead h = v.setHead h (bare .free)) ∧
        ∀ p, d.pending = some p →
          (p.first ≠ s.pos → s.stepHead h = v.setHead h { bare .free with active := some p }) ∧
          (p.first = s.pos → p.linked = true → p.cut = false →
            s.stepHead h = v.setHead h
              { state := if p.last = s.pos then .recovering else .marking, active := some p, pending := none,
                latch := dotsOf s h p 0, strobe := true }) ∧
          (p.first = s.pos → p.linked = false ∨ p.cut = true →
            s.stepHead h = v.setHead h { bare .recovering with active := some p }))

/-- R97 to R100, R113: a wanted mark adopts a ready shadow; an OFFLINE head, an empty bank or an empty clipped span gives it
up with their reasons; placed, it is refused for conflict when both slots are taken or it begins before the latest
reservation's free position, and otherwise takes the Active slot or the Pending slot behind it. -/
def Obligations.WantedMarkIsPlacedAndScheduled : Prop :=
  ∀ (s : State) (q : MarkRequest),
    let h : HeadId := if q.facing = .up then .high else .low
    let m := s.store[q.slot]
    let m' : Slot := if m.ready = true then { m with live := m.live.rev, ready := false } else m
    let v : State := { s with store := s.store.set q.slot m' }
    let cols := m'.banks[m'.live].count
    let nominal : Int := if q.facing = .up then q.start - s.params.mPre else q.last + s.params.mPre - cols + 1
    let first : Int := max nominal 0
    let lastc : Int := min (nominal + cols - 1) (q.lp - 1)
    let lastPos : Pos := q.anchor + BitVec.ofNat 16 (s.params.geo.pP + lastc.toNat)
    let r : Reservation :=
      { holder := q.tag, linked := true, cut := false, slot := q.slot, bank := m'.live, cols := cols
        leadClip := (first - nominal).toNat
        first := q.anchor + BitVec.ofNat 16 (s.params.geo.pP + first.toNat)
        last := lastPos, free := lastPos + BitVec.ofNat 16 (1 + s.params.recovery) }
    let d := s.head h
    ((s.head h).state = .offline →
      s.requestMark q = (v.setMark q.tag (.uncancelled .offline)).bump .uncancelledOffline) ∧
    ((s.head h).state ≠ .offline → cols = 0 ∨ lastc < first →
      s.requestMark q =
        ((v.setMark q.tag (.uncancelled .noMark)).bump .uncancelledOffline).raise .print .noMark) ∧
    ((s.head h).state ≠ .offline → cols ≠ 0 → first ≤ lastc →
      (d.active = none → d.pending = none →
        s.requestMark q = (v.setHead h { d with active := some r }).setMark q.tag (.scheduled h)) ∧
      (∀ a, d.active = some a → d.pending = none → isBefore r.first a.free = false →
        s.requestMark q = (v.setHead h { d with pending := some r }).setMark q.tag (.scheduled h)) ∧
      (∀ a, d.active = some a → d.pending ≠ none ∨ isBefore r.first a.free = true →
        s.requestMark q =
          ((v.setMark q.tag (.uncancelled .conflict)).bump .uncancelledConflict).raise .print .headConflict))

/-! ### Time -/

namespace Sys2Proof.Claims

/-- The throughput ring with the interval in progress written into its next place (R144). -/
def nextRing (s : State) : Vector Nat 16 :=
  let place : Fin 16 := s.throughput.newest + 1
  s.throughput.ring.set place s.throughput.count

/-- The stall timer's next count (R14). -/
def nextCount (s : State) : Nat := min (s.stallTimer.count + 1) 10000

/-- A time base expiry at the stall timer (R14, R15). -/
def stallShare (s : State) : State :=
  if Moving s ∧ s.track ≠ [] ∧ s.stallTimer.dormant = false then
    if s.params.stallLimit ≤ nextCount s then
      { ((s.raise .feed .stall).raise .super .stall).bump .stalls with
        stallTimer := { count := nextCount s, dormant := true } }
    else { s with stallTimer := { count := nextCount s, dormant := false } }
  else s

/-- A time base expiry at the throughput interval (R143, R144). -/
def intervalShare (s : State) : Throughput :=
  if s.line = .standby then s.throughput
  else if s.params.interval * 1000 ≤ s.throughput.elapsed + 1 then
    { ring := nextRing s, newest := s.throughput.newest + 1, elapsed := 0, count := 0 }
  else { s.throughput with elapsed := s.throughput.elapsed + 1 }

end Sys2Proof.Claims

/-- R14, R15, R143, R144: at a time base expiry the stall count rises while the timer runs and is not dormant, and at the
stall limit STALL is raised at the Feed and Supervisor ports, Stalls rises and the timer goes dormant; the interval's
elapsed time rises except in STANDBY, and at Interval × 1000 the interval is written into the ring's next place and begins
anew. Line state, release state and commands in flight stand, but for what the event completes or grants (Completes). -/
def Obligations.TimeBaseExpiryDrivesTimerAndInterval : Prop :=
  ∀ s : State, ∃ u : State, exec .timeBaseExpiry s = .next u.settle ∧
    u = { stallShare s with throughput := intervalShare s } ∧
    (¬ Moving s ∨ s.track = [] ∨ s.stallTimer.dormant = true →
      u.stallTimer = s.stallTimer ∧ u.live = s.live ∧ u.portF = s.portF ∧ u.portS = s.portS) ∧
    (Moving s → s.track ≠ [] → s.stallTimer.dormant = false → s.stallTimer.count + 1 < s.params.stallLimit →
      s.stallTimer.count < 10000 →
      u.stallTimer = { count := s.stallTimer.count + 1, dormant := false } ∧ u.live = s.live ∧ u.portF = s.portF ∧
        u.portS = s.portS) ∧
    (Moving s → s.track ≠ [] → s.stallTimer.dormant = false → s.stallTimer.count < 10000 →
      s.params.stallLimit ≤ s.stallTimer.count + 1 →
      u.stallTimer = { count := s.stallTimer.count + 1, dormant := true } ∧ u.tally .stalls = raised s .stalls 1 ∧
        u.portF.flags = s.portF.flags ||| 4 ∧ u.portS.flags = s.portS.flags ||| 8 ||| saturation s u ∧
        ∀ v, v ≠ .stalls → u.tally v = s.tally v) ∧
    (s.line = .standby → u.throughput = s.throughput) ∧
    (s.line ≠ .standby → s.throughput.elapsed + 1 < s.params.interval * 1000 →
      u.throughput = { s.throughput with elapsed := s.throughput.elapsed + 1 }) ∧
    (s.line ≠ .standby → s.params.interval * 1000 ≤ s.throughput.elapsed + 1 →
      u.throughput =
        { ring := nextRing s
          newest := s.throughput.newest + 1, elapsed := 0, count := 0 }) ∧
    Completes s u

/-! ### The rows that come about within other events -/

/-- R15, R38, R39, R43, R144: STALL, INTERVAL_END, FEED_MISS and GRANT as rows of their own. STALL is the time base expiry
that brings the count to the stall limit, which raises STALL at the Feed and Supervisor ports, counts it and makes the
timer dormant; INTERVAL_END the one that brings the elapsed time to Interval × 1000, which closes the interval into the
ring; each does all that this expiry does, and where the next expiry does not do so it changes nothing. A grant whose
arrival window is passed expires; a waiting RELEASE is granted at an open permit, with the position as grant position, and
completes DONE. Without its condition a row changes nothing of its own (notes/assumptions/2.md). -/
def Obligations.TimeAndGrantRowsActOnTheirConditions : Prop :=
  ∀ s : State,
    (Moving s → s.track ≠ [] → s.stallTimer.dormant = false → s.params.stallLimit ≤ nextCount s →
      exec .stall s = .next (State.settle
        { ((s.raise .feed .stall).raise .super .stall).bump .stalls with
          stallTimer := { count := nextCount s, dormant := true }, throughput := intervalShare s })) ∧
    (¬ Moving s ∨ s.track = [] ∨ s.stallTimer.dormant = true ∨ nextCount s < s.params.stallLimit →
      exec .stall s = .next s.settle) ∧
    (s.line ≠ .standby → s.params.interval * 1000 ≤ s.throughput.elapsed + 1 →
      exec .intervalEnd s = .next (State.settle { stallShare s with throughput :=
        { ring := nextRing s
          newest := s.throughput.newest + 1, elapsed := 0, count := 0 } })) ∧
    (s.line = .standby ∨ s.throughput.elapsed + 1 < s.params.interval * 1000 →
      exec .intervalEnd s = .next s.settle) ∧
    (∀ g, Moving s → s.release = .granted g →
      isAfter s.pos (g + BitVec.ofNat 16 s.params.geo.arrivalLimit) = true →
      exec .feedMiss s = .next (State.settle
        { (s.raise .feed .feedMiss).bump .feedMisses with
          release := if s.flight .feed = some .release then .waiting else .none })) ∧
    (∀ g, s.release = .granted g →
      ¬ Moving s ∨ isAfter s.pos (g + BitVec.ofNat 16 s.params.geo.arrivalLimit) = false →
      exec .feedMiss s = .next s.settle) ∧
    (s.release = .none ∨ s.release = .waiting → exec .feedMiss s = .next s.settle) ∧
    (∀ call, s.release = .waiting → s.portF.inFlight = some { kind := .release, call := call } → PermitOpen s →
      exec .grant s = .next (finished { s with release := .granted s.pos } .feed .done call).settle) ∧
    (s.release ≠ .waiting ∨ ¬ PermitOpen s → exec .grant s = .next s.settle)

/-- R49, R117, R130: DRAIN_COMPLETE, SWAP_COMPLETE and REFERENCE_WAIT_END as rows of their own. DRAINING with an empty track
and release state NONE becomes IDLE, and the DRAIN in flight completes DONE; a SWAPPING bin whose bound is 0 becomes
WITHHELD and its SWAP TRAY completes DONE; a LOAD MARK that waits begins its block phase once no reservation of either head
references its target bank. Without its condition a row changes nothing of its own (notes/assumptions/2.md). -/
def Obligations.CompletionRowsActOnTheirConditions : Prop :=
  ∀ (s : State) (call : Bool),
    (s.line = .draining → s.track = [] → s.release = .none →
      s.portF.inFlight = some { kind := .drain, call := call } →
      exec .drainComplete s =
        .next (finished { s with line := .idle, stallTimer := { count := 0, dormant := false } } .feed .done
          call).settle) ∧
    (s.line = .draining → s.track = [] → s.release = .none → s.flight .feed ≠ some .drain →
      exec .drainComplete s =
        .next (State.settle { s with line := .idle, stallTimer := { count := 0, dormant := false } })) ∧
    (s.line ≠ .draining ∨ s.track ≠ [] ∨ s.release ≠ .none → exec .drainComplete s = .next s.settle) ∧
    (∀ b, s.portS.inFlight = some { kind := .swapTray b, call := call } →
      ((s.bin b).state = .swapping → (s.bin b).bound = 0 →
        exec .swapComplete s =
          .next (finished (s.setBin b { s.bin b with state := .withheld }) .super .done call).settle) ∧
      ((s.bin b).state ≠ .swapping ∨ (s.bin b).bound ≠ 0 → exec .swapComplete s = .next s.settle)) ∧
    ((∀ b, s.flight .super ≠ some (.swapTray b)) → exec .swapComplete s = .next s.settle) ∧
    (∀ l, s.portP.inFlight = some { kind := .loadMark l, call := call } → l.phase = .wait →
      ((∀ h r, (s.head h).active = some r ∨ (s.head h).pending = some r → r.slot ≠ l.slot ∨ r.bank ≠ l.bank) →
        exec .referenceWaitEnd s =
          .next (staying s .print (.loadMark { l with phase := .block l.count 0 none }) call).settle) ∧
      ((∃ h r, ((s.head h).active = some r ∨ (s.head h).pending = some r) ∧ r.slot = l.slot ∧ r.bank = l.bank) →
        exec .referenceWaitEnd s = .next s.settle)) ∧
    ((∀ l, s.flight .print = some (.loadMark l) → l.phase ≠ .wait) → exec .referenceWaitEnd s = .next s.settle)

/-! ### Feed port commands -/

/-- R48: START puts IDLE and STANDBY into RUNNING, from STANDBY with every training count 0. R50: STANDBY puts IDLE into
STANDBY. R49: DRAIN in RUNNING makes the line IDLE and completes DONE at once where the track is empty and the release
state NONE; otherwise the line is DRAINING and the command stays in flight. Elsewhere they are refused with WRONG STATE. -/
def Obligations.StartStandbyAndDrainMoveTheLine : Prop :=
  ∀ (s : State) (call : Bool), Ready s .feed →
    let u := taken s .feed s.portF.ring
    (s.line = .idle → exec (.start .feed call) s = .next (finished { u with line := .running } .feed .done call).settle) ∧
    (s.line = .standby →
      exec (.start .feed call) s =
        .next (finished { u with line := .running, training := Vector.replicate 8 0 } .feed .done call).settle) ∧
    (s.line = .running ∨ s.line = .draining ∨ s.line = .jammed →
      exec (.start .feed call) s = .next (finished u .feed .wrongState call).settle) ∧
    (s.line = .idle →
      exec (.standby .feed call) s = .next (finished { u with line := .standby } .feed .done call).settle) ∧
    (s.line ≠ .idle → exec (.standby .feed call) s = .next (finished u .feed .wrongState call).settle) ∧
    (s.line = .running → s.track = [] → s.release = .none →
      exec (.drain .feed call) s =
        .next (finished { u with line := .idle, stallTimer := { count := 0, dormant := false } } .feed .done
          call).settle) ∧
    (s.line = .running → s.track ≠ [] ∨ s.release ≠ .none →
      exec (.drain .feed call) s = .next (staying { u with line := .draining } .feed .drain call).settle) ∧
    (s.line ≠ .running → exec (.drain .feed call) s = .next (finished u .feed .wrongState call).settle)

/-- R37, R39: RELEASE is taken in RUNNING alone, makes a release state of NONE WAITING, leaves GRANTED, and stays in flight;
taken at an open permit with no grant outstanding it is granted and completes DONE in its own event. -/
def Obligations.ReleaseWaitsForItsGrant : Prop :=
  ∀ (s : State) (call : Bool), Ready s .feed →
    let u := taken s .feed s.portF.ring
    (s.line = .running → s.release = .none →
      exec (.release .feed call) s = .next (staying { u with release := .waiting } .feed .release call).settle) ∧
    (s.line = .running → s.release ≠ .none →
      exec (.release .feed call) s = .next (staying u .feed .release call).settle) ∧
    (s.line ≠ .running → exec (.release .feed call) s = .next (finished u .feed .wrongState call).settle) ∧
    (NothingHeld s → Settled s → s.line = .running → s.release = .none → PermitOpen s →
      exec (.release .feed call) s =
        .next { s with
          release := .granted s.pos
          portF := { s.portF with code := .done, xdone := true, xcall := call } })

/-! ### Print port commands -/

/-- R115, R116: LOAD MARK takes slot and count, refuses a slot above 3 with BAD OPERAND, clamps the count into 1 to 128,
fixes the slot's other bank as its target with count 0 and no shadow ready, and enters its block phase, or the reference
wait where a reservation of either head references the target. -/
def Obligations.LoadMarkFixesItsTarget : Prop :=
  ∀ (s : State) (call : Bool) (slot count : Byte) (rest : List Byte), Ready s .print →
    s.portP.ring = slot :: count :: rest →
    let u := taken s .print (rest ++ [0, 0])
    (4 ≤ slot.toNat → exec (.loadMark .print call) s = .next (finished u .print .badOperand call).settle) ∧
    ∀ n : Fin 4, slot.toNat = n.val →
      let m := s.store[n]
      let b := m.live.rev
      let c := max 1 (min count.toNat 128)
      let cleared : Slot := { m with banks := m.banks.set b { m.banks[b] with count := 0 }, ready := false }
      let v : State := { u with store := s.store.set n cleared }
      let l (p : LoadPhase) : Flight := .loadMark { slot := n, bank := b, count := c, clamped := c != count.toNat, phase := p }
      ((∀ h r, (s.head h).active = some r ∨ (s.head h).pending = some r → r.slot ≠ n ∨ r.bank ≠ b) →
        exec (.loadMark .print call) s = .next (staying v .print (l (.block c 0 none)) call).settle) ∧
      ((∃ h r, ((s.head h).active = some r ∨ (s.head h).pending = some r) ∧ r.slot = n ∧ r.bank = b) →
        exec (.loadMark .print call) s = .next (staying v .print (l .wait) call).settle)

/-- R118: in the block phase of LOAD MARK data writes come in pairs, dots 15 to 8 first; the second byte writes the column,
and that of the last column sets the target's count, makes the shadow ready and completes DONE or CLAMPED. A data read
returns 0. The ring is not changed. The byte returned is held where notes/assumptions/11.md says. -/
def Obligations.LoadMarkBlockTakesColumnPairs : Prop :=
  ∀ (s : State) (call : Bool) (l : Load) (left next : Nat) (first : Option Byte), s.portP.held = none →
    s.portP.inFlight = some { kind := .loadMark l, call := call } → l.phase = .block left next first → next < 128 →
    let u := taken s .print s.portP.ring
    let m := s.store[l.slot]
    let k := m.banks[l.bank]
    (∀ b : Byte, ∀ i ∈ [Instr.columnPairWrite b, Instr.dataWrite .print b],
      (first = none →
        exec i s = .next (staying u .print (.loadMark { l with phase := .block left next (some b) }) call).settle) ∧
      ∀ hi, first = some hi →
        let filled := k.columns.setIfInBounds next (hi ++ b)
        let written : Slot := { m with banks := m.banks.set l.bank { k with columns := filled } }
        let loaded : Slot :=
          { m with banks := m.banks.set l.bank { columns := filled, count := l.count }, ready := true }
        (2 ≤ left →
          exec i s = .next (staying { u with store := s.store.set l.slot written } .print
            (.loadMark { l with phase := .block (left - 1) (next + 1) none }) call).settle) ∧
        (left = 1 →
          exec i s = .next (finished { u with store := s.store.set l.slot loaded } .print
            (if l.clamped then .clamped else .done) call).settle)) ∧
    exec (.dataRead .print) s = .next (s.setPort .print { s.portP with out := 0, xdone := false }).settle

/-- R104, R105: HEAD ONLINE makes an OFFLINE head FREE with empty slots and leaves any other; HEAD OFFLINE leaves an OFFLINE
head, and settles the reservations of any other, empties it and makes it OFFLINE. Both refuse a head other than 0 and 1
with BAD OPERAND. -/
def Obligations.HeadsGoOnlineAndOffline : Prop :=
  ∀ (s : State) (call : Bool) (n : Byte) (rest : List Byte), Ready s .print → s.portP.ring = n :: rest →
    let u := taken s .print (rest ++ [0])
    (2 ≤ n.toNat →
      exec (.headOnline .print call) s = .next (finished u .print .badOperand call).settle ∧
      exec (.headOffline .print call) s = .next (finished u .print .badOperand call).settle) ∧
    ∀ h : HeadId, n = (match h with | .high => 0 | .low => 1) →
      ((s.head h).state = .offline →
        exec (.headOnline .print call) s = .next (finished (u.setHead h (bare .free)) .print .done call).settle ∧
        exec (.headOffline .print call) s = .next (finished u .print .done call).settle) ∧
      ((s.head h).state ≠ .offline →
        exec (.headOnline .print call) s = .next (finished u .print .done call).settle ∧
        exec (.headOffline .print call) s = .next (finished
          ((settled offlinePending (settled (offlineActive (s.head h).state) u (s.head h).active)
            (s.head h).pending).setHead h (bare .offline)) .print .done call).settle)

/-! ### Parameters and the sort plan -/

namespace Sys2Proof.Claims

/-- A value moved to the nearer end of a range (R167). -/
def intoRange (lo hi v : Nat) : Nat := max lo (min v hi)

/-- A bin takes a capacity, and its state follows (R133). -/
def withCapacity (s : State) (b : Bin) (v : Nat) : State :=
  if (s.bin b).state = .available ∧ v ≤ (s.bin b).count then
    let u := (s.setBin b { s.bin b with capacity := v, state := .full }).raise .super .trayFull
    if b = .endTray then u.raise .feed .trayFullEnd else u
  else if (s.bin b).state = .full ∧ (s.bin b).count < v then
    s.setBin b { s.bin b with capacity := v, state := .available }
  else s.setBin b { s.bin b with capacity := v }

end Sys2Proof.Claims

/-- 11.9: each identifier of the parameter table names its parameter, whose values after power-on clamp into its range (Lmax
above the default Lmin, a capacity with count and bound 0); no other identifier names one. -/
def Obligations.ParametersFollowTheLayoutTable : Prop :=
  (∀ id p lo hi dflt, (id, p, lo, hi, dflt) ∈ parameterTable →
      paramOfNat id = some p ∧ ∀ v, State.reset.clampParam p v = intoRange lo hi v) ∧
    ∀ id, (∀ p lo hi dflt, (id, p, lo, hi, dflt) ∉ parameterTable) → paramOfNat id = none

/-- R167, R168: SET PARAMETER of a geometry parameter takes its three operands, is refused with NOT PERMITTED at the Print
port and with WRONG STATE outside IDLE and STANDBY, and stores the value clamped into its range if the geometry that has
it, and every other value as it was, is consistent; else it is refused with BAD CONFIG; an identifier in no table is
refused with BAD OPERAND. -/
def Obligations.SetParameterKeepsTheGeometryConsistent : Prop :=
  ∀ (s : State) (x : PortId) (call : Bool) (id hi lo : Byte) (rest : List Byte), Ready s x → x ≠ .feed →
    (s.port x).ring = id :: hi :: lo :: rest →
    let u := taken s x (rest ++ [0, 0, 0])
    let v := hi.toNat * 256 + lo.toNat
    ((∀ p lo' hi' dflt, (id.toNat, p, lo', hi', dflt) ∉ parameterTable) →
      exec (.setParameter x call) s = .next (finished u x .badOperand call).settle) ∧
    ∀ g least most dflt, (id.toNat, ParamId.geo g, least, most, dflt) ∈ parameterTable →
      let w := intoRange least most v
      (x = .print → exec (.setParameter x call) s = .next (finished u x .notPermitted call).settle) ∧
      (x = .super → ¬ Resting s → exec (.setParameter x call) s = .next (finished u x .wrongState call).settle) ∧
      (x = .super → Resting s → ∃ geo : Geometry,
        geoValue geo g = w ∧ (∀ i, i ≠ g → geoValue geo i = geoValue s.params.geo i) ∧
        (Consistent geo →
          exec (.setParameter x call) s =
            .next (finished { u with params := { s.params with geo := geo } } x (if w = v then .done else .clamped)
              call).settle) ∧
        (¬ Consistent geo → exec (.setParameter x call) s = .next (finished u x .badConfig call).settle))

/-- R15, R59, R109, R133, R144, R167: SET PARAMETER of the detector, cancel, timing and bins groups, in every line state: the
value clamped into its range, Lmax not below Lmin, Lmin raising Lmax with it, a capacity not below count plus bound (for
bin 0 at most 4000 there); the cancel group also at the Print port, the others refused there with NOT PERMITTED. -/
def Obligations.SetParameterStoresTheOtherGroups : Prop :=
  ∀ (s : State) (x : PortId) (call : Bool) (id hi lo : Byte) (rest : List Byte), Ready s x → x ≠ .feed →
    (s.port x).ring = id :: hi :: lo :: rest →
    let u := taken s x (rest ++ [0, 0, 0])
    let v := hi.toNat * 256 + lo.toNat
    let store (p : Params) (w : Nat) : Host.Outcome State Fault Refusal :=
      .next (finished { u with params := p } x (if w = v then .done else .clamped) call).settle
    (x = .print → ∀ p, paramOfNat id.toNat = some p → p ≠ .mPre → p ≠ .recovery →
      exec (.setParameter x call) s = .next (finished u x .notPermitted call).settle) ∧
    (paramOfNat id.toNat = some .mPre →
      exec (.setParameter x call) s = store { s.params with mPre := intoRange 0 63 v } (intoRange 0 63 v)) ∧
    (paramOfNat id.toNat = some .recovery →
      exec (.setParameter x call) s = store { s.params with recovery := intoRange 0 255 v } (intoRange 0 255 v)) ∧
    (x = .super →
      (paramOfNat id.toNat = some .stallLimit →
        exec (.setParameter x call) s =
          store { s.params with stallLimit := intoRange 100 10000 v } (intoRange 100 10000 v)) ∧
      (paramOfNat id.toNat = some .interval →
        exec (.setParameter x call) s = store { s.params with interval := intoRange 1 255 v } (intoRange 1 255 v)) ∧
      (∀ k : Kind,
        let d := s.params.det k
        let with_ (e : Detector) : Params := s.params.setDet k e
        (paramOfNat id.toNat = some (.det k .t) →
          exec (.setParameter x call) s = store (with_ { d with t := intoRange 1 255 v }) (intoRange 1 255 v)) ∧
        (paramOfNat id.toNat = some (.det k .lmin) →
          exec (.setParameter x call) s =
            store (with_ { d with lmin := intoRange 1 255 v, lmax := max d.lmax (intoRange 1 255 v) })
              (intoRange 1 255 v)) ∧
        (paramOfNat id.toNat = some (.det k .lmax) →
          exec (.setParameter x call) s =
            store (with_ { d with lmax := intoRange d.lmin 400 v }) (intoRange d.lmin 400 v)) ∧
        (paramOfNat id.toNat = some (.det k .smin) →
          exec (.setParameter x call) s = store (with_ { d with smin := intoRange 1 65535 v }) (intoRange 1 65535 v)) ∧
        (paramOfNat id.toNat = some (.det k .g) →
          exec (.setParameter x call) s = store (with_ { d with g := intoRange 0 7 v }) (intoRange 0 7 v))) ∧
      ∀ b : Bin, paramOfNat id.toNat = some (.capacity b) →
        let sum := (s.bin b).count + (s.bin b).bound
        let w := max (intoRange 50 4000 v) (if b = .endTray then min sum 4000 else sum)
        exec (.setParameter x call) s =
          .next (finished (withCapacity u b w) x (if w = v then .done else .clamped) call).settle)

/-- R169: READ PARAMETER takes the identifier, refuses one in no table with BAD OPERAND, and otherwise pushes the stored
value, high byte read first, and completes DONE. -/
def Obligations.ReadParameterPushesTheStoredValue : Prop :=
  ∀ (s : State) (call : Bool) (id : Byte) (rest : List Byte), Ready s .super → s.portS.ring = id :: rest →
    (paramOfNat id.toNat = none →
      exec (.readParameter .super call) s =
        .next (finished (taken s .super (rest ++ [0])) .super .badOperand call).settle) ∧
    ∀ p, paramOfNat id.toNat = some p →
      exec (.readParameter .super call) s =
        .next (finished (taken s .super (pushed (twoBytes (stored s p)) (rest ++ [0]))) .super .done call).settle

/-- R123: SET SORT ENTRY takes class, primary, alternate and the cancel-and-slot byte, refuses a class above 8 or a bin above
6 with BAD OPERAND and otherwise replaces the entry; READ SORT ENTRY takes the class and pushes the entry's primary,
alternate and cancel-and-slot byte, bits 6 to 2 of which read 0. -/
def Obligations.SortPlanCommandsReplaceAndReportEntries : Prop :=
  ∀ (s : State) (call : Bool) (k p a c : Byte) (rest : List Byte), Ready s .super →
    s.portS.ring = k :: p :: a :: c :: rest →
    let u := taken s .super (rest ++ [0, 0, 0, 0])
    let v := taken s .super (p :: a :: c :: rest ++ [0])
    let number : Bin → Nat := fun b => match b with | .endTray => 0 | .tray i => i.val + 1
    (9 ≤ k.toNat ∨ 7 ≤ p.toNat ∨ 7 ≤ a.toNat →
      exec (.setSortEntry .super call) s = .next (finished u .super .badOperand call).settle) ∧
    (∀ (kl : Fin 9) (pb ab : Bin), k.toNat = kl.val → p.toNat = number pb → a.toNat = number ab →
      let entry : SortEntry :=
        { primary := pb, alternate := ab, cancel := decide (128 ≤ c.toNat),
          slot := ⟨c.toNat % 4, Nat.mod_lt _ (by decide)⟩ }
      exec (.setSortEntry .super call) s =
        .next (finished { u with sort := s.sort.set kl entry } .super .done call).settle) ∧
    (9 ≤ k.toNat → exec (.readSortEntry .super call) s = .next (finished v .super .badOperand call).settle) ∧
    (∀ kl : Fin 9, k.toNat = kl.val →
      let e := s.sort[kl]
      exec (.readSortEntry .super call) s = .next (finished
        (taken s .super (pushed [BitVec.ofNat 8 (number e.primary), BitVec.ofNat 8 (number e.alternate),
          BitVec.ofNat 8 ((if e.cancel then 128 else 0) + e.slot.val)] (p :: a :: c :: rest ++ [0])))
        .super .done call).settle)

/-! ### Tallies and blocks -/

/-- R139, R142: SNAPSHOT TALLIES copies every live counter into the snapshot; CLEAR TALLIES, in IDLE and STANDBY alone,
zeroes the live counters and the throughput state, whose newest place returns to its initial one, and keeps the
snapshot. -/
def Obligations.SnapshotCopiesAndClearZeroes : Prop :=
  ∀ (s : State) (call : Bool), Ready s .super →
    let u := taken s .super s.portS.ring
    exec (.snapshotTallies .super call) s = .next (finished { u with snapshot := s.live } .super .done call).settle ∧
    (Resting s →
      exec (.clearTallies .super call) s = .next (finished
        { u with
          live := Vector.replicate 32 0
          throughput := { ring := Vector.replicate 16 0, newest := State.reset.throughput.newest, elapsed := 0,
                          count := 0 } } .super .done call).settle) ∧
    (¬ Resting s → exec (.clearTallies .super call) s = .next (finished u .super .wrongState call).settle)

/-- R134, R140, R145: READ TALLIES takes first and count, refuses a first above 31 with BAD OPERAND and clamps the count into
1 to 32 − first; READ THROUGHPUT forms 32 bytes, newest entry first, and READ BINS 28 bytes, bin 0 first, from the state of
their event. Each enters its block phase. -/
def Obligations.BlockReadsFormTheirBlocks : Prop :=
  ∀ (s : State) (call : Bool), Ready s .super →
    let u := taken s .super s.portS.ring
    (∀ first count rest, s.portS.ring = first :: count :: rest →
      let v := taken s .super (rest ++ [0, 0])
      let n := max 1 (min count.toNat (32 - first.toNat))
      (32 ≤ first.toNat → exec (.readTallies .super call) s = .next (finished v .super .badOperand call).settle) ∧
      (first.toNat ≤ 31 →
        exec (.readTallies .super call) s =
          .next (staying v .super (.readTallies n first.toNat 0 (n != count.toNat)) call).settle)) ∧
    exec (.readThroughput .super call) s =
      .next (staying u .super (.readBytes ((List.finRange 16).flatMap fun k =>
        let n := s.throughput.ring[s.throughput.newest - k]
        [BitVec.ofNat 8 (n / 256), BitVec.ofNat 8 n])) call).settle ∧
    exec (.readBins .super call) s =
      .next (staying u .super (.readBytes ((List.finRange 7).flatMap fun k =>
        let e := s.bins[k]
        [match e.state with | .available => 0 | .full => 1 | .swapping => 2 | .withheld => 3,
          BitVec.ofNat 8 e.bound, BitVec.ofNat 8 (e.count / 256), BitVec.ofNat 8 e.count])) call).settle

/-- R134, R141, R145, R162: a data read in a read block returns the next byte, for READ TALLIES the next byte of the snapshot
counter, most significant first; the read that exhausts the block completes the command; a data write is discarded. The
ring is not changed. The byte returned is held where notes/assumptions/11.md says. -/
def Obligations.BlockDataReadsReturnTheBlock : Prop :=
  ∀ (s : State) (call : Bool), s.portS.held = none →
    let read (b : Byte) : State := s.setPort .super { s.portS with out := b, xdone := false }
    (∀ i ∈ [Instr.blockDataRead .super .read, Instr.dataRead .super],
      (∀ (left pos : Nat) (k : Fin 32) (clamped : Bool),
        s.portS.inFlight = some { kind := .readTallies left k.val pos clamped, call := call } → pos ≤ 3 →
        let b : Byte := BitVec.ofNat 8 (s.snapshot[k] / 256 ^ (3 - pos))
        (pos ≤ 2 →
          exec i s = .next (staying (read b) .super (.readTallies left k.val (pos + 1) clamped) call).settle) ∧
        (pos = 3 → 2 ≤ left →
          exec i s = .next (staying (read b) .super (.readTallies (left - 1) (k.val + 1) 0 clamped) call).settle) ∧
        (pos = 3 → left = 1 →
          exec i s = .next (finished (read b) .super (if clamped then .clamped else .done) call).settle)) ∧
      ∀ (b : Byte) (bytes : List Byte), s.portS.inFlight = some { kind := .readBytes (b :: bytes), call := call } →
        (bytes ≠ [] → exec i s = .next (staying (read b) .super (.readBytes bytes) call).settle) ∧
        (bytes = [] → exec i s = .next (finished (read b) .super .done call).settle)) ∧
    ∀ b : Byte, ∀ i ∈ [Instr.blockDataRead .super (.write b), Instr.dataWrite .super b],
      (∃ left k pos clamped, s.portS.inFlight = some { kind := .readTallies left k pos clamped, call := call }) ∨
        (∃ bytes, s.portS.inFlight = some { kind := .readBytes bytes, call := call }) →
      exec i s = .next (taken s .super s.portS.ring).settle

/-! ### Trays, track and line -/

/-- R130, R132: SWAP TRAY refuses a bin above 6 with BAD OPERAND and a SWAPPING or WITHHELD bin with TARGET BUSY, makes a bin
with bound 0 WITHHELD at once, and otherwise makes it SWAPPING and stays in flight; TRAY READY returns a WITHHELD bin to
AVAILABLE with count 0 and is refused with WRONG STATE for any other. -/
def Obligations.TraysAreSwappedAndMadeReady : Prop :=
  ∀ (s : State) (call : Bool) (n : Byte) (rest : List Byte), Ready s .super → s.portS.ring = n :: rest →
    let u := taken s .super (rest ++ [0])
    (7 ≤ n.toNat →
      exec (.swapTray .super call) s = .next (finished u .super .badOperand call).settle ∧
      exec (.trayReady .super call) s = .next (finished u .super .badOperand call).settle) ∧
    ∀ b : Bin, n.toNat = (match b with | .endTray => 0 | .tray i => i.val + 1) →
      let e := s.bin b
      (e.state = .swapping ∨ e.state = .withheld →
        exec (.swapTray .super call) s = .next (finished u .super .targetBusy call).settle) ∧
      (e.state = .available ∨ e.state = .full →
        (e.bound = 0 →
          exec (.swapTray .super call) s =
            .next (finished (u.setBin b { e with state := .withheld }) .super .done call).settle) ∧
        (e.bound ≠ 0 →
          exec (.swapTray .super call) s =
            .next (staying (u.setBin b { e with state := .swapping }) .super (.swapTray b) call).settle)) ∧
      (e.state = .withheld →
        exec (.trayReady .super call) s =
          .next (finished (u.setBin b { e with state := .available, count := 0 }) .super .done call).settle) ∧
      (e.state ≠ .withheld →
        exec (.trayReady .super call) s = .next (finished u .super .wrongState call).settle)

/-- R31 to R34, 11.9: READ PIECE takes a tag, answers NOT FOUND where no record carries it, and otherwise pushes the eight
bytes of the record's summary: tag, stage, class, flags, bin, mark outcome and length. -/
def Obligations.ReadPieceReportsTheRecord : Prop :=
  ∀ (s : State) (call : Bool) (n : Byte) (rest : List Byte), Ready s .super → s.portS.ring = n :: rest →
    ((∀ r ∈ s.track, r.tag ≠ n) →
      exec (.readPiece .super call) s =
        .next (finished (taken s .super (rest ++ [0])) .super .notFound call).settle) ∧
    ∀ r ∈ s.track, r.tag = n → (s.track.map fun q => q.tag).Nodup →
      let counted : Nat := match s.read with
        | .sampling d _ => if d.tag = r.tag then d.count else 0
        | .overrun d => if d.tag = r.tag then d.count else 0
        | .idle => 0
      let length : Nat := match r.stage with
        | .inducting => 0
        | .toRead => r.inductionLength.getD 0
        | .reading => counted
        | .planned => r.lp.getD counted
        | .held => r.lp.getD (r.inductionLength.getD 0)
      ∃ flags : Byte,
        (flags.getLsbD 0 = true ↔ ∃ o, r.orient = some o) ∧
        (flags.getLsbD 1 = true ↔ ∃ o, r.orient = some o ∧ o.facing = .inv) ∧
        (flags.getLsbD 2 = true ↔ ∃ o, r.orient = some o ∧ o.needsTurn = true) ∧
        (flags.getLsbD 3 = true ↔ ∃ g, r.gate = some g ∧ g.setting = .turn) ∧
        (flags.getLsbD 4 = true ↔ r.conflict = some true) ∧
        (flags.getLsbD 5 = true ↔ ∃ g, r.gate = some g ∧ g.win.toPos = none) ∧
        (flags.getLsbD 6 = true ↔ ∃ m, r.lp = some m) ∧ flags.getLsbD 7 = false ∧
        exec (.readPiece .super call) s = .next (finished (taken s .super (pushed
          [r.tag,
            match r.stage with | .inducting => 0 | .toRead => 1 | .reading => 2 | .planned => 3 | .held => 4,
            match r.cls with
              | none => 0xFF | some .stampedUp => 0 | some .stampedInv => 1 | some .meteredUp => 2
              | some .meteredInv => 3 | some .unfaced => 4 | some .ambiguous => 5 | some .unusual => 6
              | some .short => 7 | some .overlength => 8,
            flags,
            match r.bin with | none => 0xFF | some .endTray => 0 | some (.tray i) => BitVec.ofNat 8 (i.val + 1),
            match r.mark with
              | none => 0 | some .none => 1 | some (.scheduled _) => 2 | some .done => 3 | some .incomplete => 4
              | some (.uncancelled .conflict) => 5 | some (.uncancelled .offline) => 6
              | some (.uncancelled .noMark) => 7 | some (.uncancelled .jam) => 8,
            BitVec.ofNat 8 (length / 256), BitVec.ofNat 8 length]
          (rest ++ [0]))) .super .done call).settle

/-- R110: READ HEADS pushes the HIGH head's state and number of reservations, then the LOW head's, in that reading order.
R158: READ LINE pushes six bytes: line state, track count, reset cause, jam cause, jam cell (FFh while absent) and release
state. -/
def Obligations.ReadHeadsAndReadLineReport : Prop :=
  (∀ (s : State) (call : Bool), Ready s .print →
    let code : HeadState → Byte := fun st => match st with | .offline => 0 | .free => 1 | .marking => 2 | .recovering => 3
    let held : Head → Byte := fun d =>
      (if d.active = none then (0 : Byte) else 1) + (if d.pending = none then (0 : Byte) else 1)
    exec (.readHeads .print call) s =
      .next (finished (taken s .print
        (pushed [code s.headHigh.state, held s.headHigh, code s.headLow.state, held s.headLow] s.portP.ring))
        .print .done call).settle) ∧
  ∀ (s : State) (call : Bool), Ready s .super →
    exec (.readLine .super call) s = .next (finished (taken s .super (pushed
      [match s.line with | .idle => 0 | .running => 1 | .draining => 2 | .jammed => 3 | .standby => 4,
        BitVec.ofNat 8 s.track.length,
        match s.resetCause with | .powerOn => 0 | .lineInput => 1 | .lineCommand => 2,
        match s.jamCause with | .none => 0 | .missing => 1 | .stray => 2,
        match s.jamCell with
          | none => 0xFF | some .i => 0 | some .r => 1 | some .t => 2 | some .c => 3
          | some (.b k) => BitVec.ofNat 8 (k.val + 4) | some .e => 10,
        match s.release with | .none => 0 | .waiting => 1 | .granted _ => 2]
      s.portS.ring)) .super .done call).settle

/-- R28, R85, R152, R153: PURGE in JAMMED removes every record, adds their number to Purged, clears both occupants, zeroes
every bound and closes the last reservation's open to at its holder's Lp; the line stays JAMMED. RESUME in JAMMED with the
track empty makes the line IDLE and changes nothing else of it. Elsewhere both are refused with WRONG STATE. -/
def Obligations.PurgeAndResumeClearTheJam : Prop :=
  ∀ (s : State) (call : Bool), Ready s .super →
    let u := taken s .super s.portS.ring
    let emptied (l : Option FlipReservation) : State :=
      { u.bumpBy .purged s.track.length with
        track := [], iOcc := none, rOcc := none, stallTimer := { count := 0, dormant := false }, lastRes := l
        bins := Vector.ofFn fun b => { s.bins[b] with bound := 0 } }
    (s.line = .jammed → (∀ r ∈ s.track, ∀ g, r.gate = some g → g.win.toPos ≠ none) →
      exec (.purge .super call) s = .next (finished (emptied s.lastRes) .super .done call).settle) ∧
    (∀ l r g n, s.line = .jammed → (s.track.map fun q => q.tag).Nodup → s.lastRes = some l → r ∈ s.track →
      r.tag = l.holder → r.gate = some g → g.win.toPos = none → l.win.toPos = none → r.lp = some n →
      exec (.purge .super call) s = .next (finished (emptied (some { l with win := { l.win with
        toPos := some (r.anchor + BitVec.ofNat 16 (s.params.geo.pF + n + s.params.geo.flipHold)) } }))
        .super .done call).settle) ∧
    (s.line ≠ .jammed → exec (.purge .super call) s = .next (finished u .super .wrongState call).settle) ∧
    (s.line = .jammed → s.track = [] →
      exec (.resume .super call) s = .next (finished { u with line := .idle } .super .done call).settle) ∧
    (s.line ≠ .jammed ∨ s.track ≠ [] →
      exec (.resume .super call) s = .next (finished u .super .wrongState call).settle)
end

