-- ==== Sys2Proof/Laws/State.lean ====
section
/-! SUPPORT. Laws/State.lean: for each named update of the state, the fields it leaves and what reading gives after it. -/

namespace Sys2Proof.Machine

section
variable (s : State)

@[simp] theorem State.setLevel_pos (x : Cell) (l : Level) : (s.setLevel x l).pos = s.pos := rfl
@[simp] theorem State.setLevel_iOcc (x : Cell) (l : Level) : (s.setLevel x l).iOcc = s.iOcc := rfl
@[simp] theorem State.setLevel_rOcc (x : Cell) (l : Level) : (s.setLevel x l).rOcc = s.rOcc := rfl
@[simp] theorem State.setLevel_stallTimer (x : Cell) (l : Level) : (s.setLevel x l).stallTimer = s.stallTimer := rfl
@[simp] theorem State.setLevel_track (x : Cell) (l : Level) : (s.setLevel x l).track = s.track := rfl
@[simp] theorem State.setLevel_nextTag (x : Cell) (l : Level) : (s.setLevel x l).nextTag = s.nextTag := rfl
@[simp] theorem State.setLevel_release (x : Cell) (l : Level) : (s.setLevel x l).release = s.release := rfl
@[simp] theorem State.setLevel_gap (x : Cell) (l : Level) : (s.setLevel x l).gap = s.gap := rfl
@[simp] theorem State.setLevel_training (x : Cell) (l : Level) : (s.setLevel x l).training = s.training := rfl
@[simp] theorem State.setLevel_baselines (x : Cell) (l : Level) : (s.setLevel x l).baselines = s.baselines := rfl
@[simp] theorem State.setLevel_read (x : Cell) (l : Level) : (s.setLevel x l).read = s.read := rfl
@[simp] theorem State.setLevel_params (x : Cell) (l : Level) : (s.setLevel x l).params = s.params := rfl
@[simp] theorem State.setLevel_gateOut (x : Cell) (l : Level) : (s.setLevel x l).gateOut = s.gateOut := rfl
@[simp] theorem State.setLevel_lastRes (x : Cell) (l : Level) : (s.setLevel x l).lastRes = s.lastRes := rfl
@[simp] theorem State.setLevel_headHigh (x : Cell) (l : Level) : (s.setLevel x l).headHigh = s.headHigh := rfl
@[simp] theorem State.setLevel_headLow (x : Cell) (l : Level) : (s.setLevel x l).headLow = s.headLow := rfl
@[simp] theorem State.setLevel_store (x : Cell) (l : Level) : (s.setLevel x l).store = s.store := rfl
@[simp] theorem State.setLevel_sort (x : Cell) (l : Level) : (s.setLevel x l).sort = s.sort := rfl
@[simp] theorem State.setLevel_bins (x : Cell) (l : Level) : (s.setLevel x l).bins = s.bins := rfl
@[simp] theorem State.setLevel_gates (x : Cell) (l : Level) : (s.setLevel x l).gates = s.gates := rfl
@[simp] theorem State.setLevel_live (x : Cell) (l : Level) : (s.setLevel x l).live = s.live := rfl
@[simp] theorem State.setLevel_snapshot (x : Cell) (l : Level) : (s.setLevel x l).snapshot = s.snapshot := rfl
@[simp] theorem State.setLevel_throughput (x : Cell) (l : Level) : (s.setLevel x l).throughput = s.throughput := rfl
@[simp] theorem State.setLevel_line (x : Cell) (l : Level) : (s.setLevel x l).line = s.line := rfl
@[simp] theorem State.setLevel_jamCause (x : Cell) (l : Level) : (s.setLevel x l).jamCause = s.jamCause := rfl
@[simp] theorem State.setLevel_jamCell (x : Cell) (l : Level) : (s.setLevel x l).jamCell = s.jamCell := rfl
@[simp] theorem State.setLevel_resetCause (x : Cell) (l : Level) : (s.setLevel x l).resetCause = s.resetCause := rfl
@[simp] theorem State.setLevel_resetLevel (x : Cell) (l : Level) : (s.setLevel x l).resetLevel = s.resetLevel := rfl
@[simp] theorem State.setLevel_portF (x : Cell) (l : Level) : (s.setLevel x l).portF = s.portF := rfl
@[simp] theorem State.setLevel_portP (x : Cell) (l : Level) : (s.setLevel x l).portP = s.portP := rfl
@[simp] theorem State.setLevel_portS (x : Cell) (l : Level) : (s.setLevel x l).portS = s.portS := rfl
@[simp] theorem State.setLevel_freeCount (x : Cell) (l : Level) : (s.setLevel x l).freeCount = s.freeCount := rfl
@[simp] theorem State.setLevel_pending (x : Cell) (l : Level) : (s.setLevel x l).pending = s.pending := rfl

@[simp] theorem State.setPort_pos (x : PortId) (p : Port) : (s.setPort x p).pos = s.pos := by cases x <;> rfl
@[simp] theorem State.setPort_cells (x : PortId) (p : Port) : (s.setPort x p).cells = s.cells := by cases x <;> rfl
@[simp] theorem State.setPort_iOcc (x : PortId) (p : Port) : (s.setPort x p).iOcc = s.iOcc := by cases x <;> rfl
@[simp] theorem State.setPort_rOcc (x : PortId) (p : Port) : (s.setPort x p).rOcc = s.rOcc := by cases x <;> rfl
@[simp] theorem State.setPort_stallTimer (x : PortId) (p : Port) : (s.setPort x p).stallTimer = s.stallTimer := by cases x <;> rfl
@[simp] theorem State.setPort_track (x : PortId) (p : Port) : (s.setPort x p).track = s.track := by cases x <;> rfl
@[simp] theorem State.setPort_nextTag (x : PortId) (p : Port) : (s.setPort x p).nextTag = s.nextTag := by cases x <;> rfl
@[simp] theorem State.setPort_release (x : PortId) (p : Port) : (s.setPort x p).release = s.release := by cases x <;> rfl
@[simp] theorem State.setPort_gap (x : PortId) (p : Port) : (s.setPort x p).gap = s.gap := by cases x <;> rfl
@[simp] theorem State.setPort_training (x : PortId) (p : Port) : (s.setPort x p).training = s.training := by cases x <;> rfl
@[simp] theorem State.setPort_baselines (x : PortId) (p : Port) : (s.setPort x p).baselines = s.baselines := by cases x <;> rfl
@[simp] theorem State.setPort_read (x : PortId) (p : Port) : (s.setPort x p).read = s.read := by cases x <;> rfl
@[simp] theorem State.setPort_params (x : PortId) (p : Port) : (s.setPort x p).params = s.params := by cases x <;> rfl
@[simp] theorem State.setPort_gateOut (x : PortId) (p : Port) : (s.setPort x p).gateOut = s.gateOut := by cases x <;> rfl
@[simp] theorem State.setPort_lastRes (x : PortId) (p : Port) : (s.setPort x p).lastRes = s.lastRes := by cases x <;> rfl
@[simp] theorem State.setPort_headHigh (x : PortId) (p : Port) : (s.setPort x p).headHigh = s.headHigh := by cases x <;> rfl
@[simp] theorem State.setPort_headLow (x : PortId) (p : Port) : (s.setPort x p).headLow = s.headLow := by cases x <;> rfl
@[simp] theorem State.setPort_store (x : PortId) (p : Port) : (s.setPort x p).store = s.store := by cases x <;> rfl
@[simp] theorem State.setPort_sort (x : PortId) (p : Port) : (s.setPort x p).sort = s.sort := by cases x <;> rfl
@[simp] theorem State.setPort_bins (x : PortId) (p : Port) : (s.setPort x p).bins = s.bins := by cases x <;> rfl
@[simp] theorem State.setPort_gates (x : PortId) (p : Port) : (s.setPort x p).gates = s.gates := by cases x <;> rfl
@[simp] theorem State.setPort_live (x : PortId) (p : Port) : (s.setPort x p).live = s.live := by cases x <;> rfl
@[simp] theorem State.setPort_snapshot (x : PortId) (p : Port) : (s.setPort x p).snapshot = s.snapshot := by cases x <;> rfl
@[simp] theorem State.setPort_throughput (x : PortId) (p : Port) : (s.setPort x p).throughput = s.throughput := by cases x <;> rfl
@[simp] theorem State.setPort_line (x : PortId) (p : Port) : (s.setPort x p).line = s.line := by cases x <;> rfl
@[simp] theorem State.setPort_jamCause (x : PortId) (p : Port) : (s.setPort x p).jamCause = s.jamCause := by cases x <;> rfl
@[simp] theorem State.setPort_jamCell (x : PortId) (p : Port) : (s.setPort x p).jamCell = s.jamCell := by cases x <;> rfl
@[simp] theorem State.setPort_resetCause (x : PortId) (p : Port) : (s.setPort x p).resetCause = s.resetCause := by cases x <;> rfl
@[simp] theorem State.setPort_resetLevel (x : PortId) (p : Port) : (s.setPort x p).resetLevel = s.resetLevel := by cases x <;> rfl
@[simp] theorem State.setPort_freeCount (x : PortId) (p : Port) : (s.setPort x p).freeCount = s.freeCount := by cases x <;> rfl
@[simp] theorem State.setPort_pending (x : PortId) (p : Port) : (s.setPort x p).pending = s.pending := by cases x <;> rfl

@[simp] theorem State.setHead_pos (h : HeadId) (d : Head) : (s.setHead h d).pos = s.pos := by cases h <;> rfl
@[simp] theorem State.setHead_cells (h : HeadId) (d : Head) : (s.setHead h d).cells = s.cells := by cases h <;> rfl
@[simp] theorem State.setHead_iOcc (h : HeadId) (d : Head) : (s.setHead h d).iOcc = s.iOcc := by cases h <;> rfl
@[simp] theorem State.setHead_rOcc (h : HeadId) (d : Head) : (s.setHead h d).rOcc = s.rOcc := by cases h <;> rfl
@[simp] theorem State.setHead_stallTimer (h : HeadId) (d : Head) : (s.setHead h d).stallTimer = s.stallTimer := by cases h <;> rfl
@[simp] theorem State.setHead_track (h : HeadId) (d : Head) : (s.setHead h d).track = s.track := by cases h <;> rfl
@[simp] theorem State.setHead_nextTag (h : HeadId) (d : Head) : (s.setHead h d).nextTag = s.nextTag := by cases h <;> rfl
@[simp] theorem State.setHead_release (h : HeadId) (d : Head) : (s.setHead h d).release = s.release := by cases h <;> rfl
@[simp] theorem State.setHead_gap (h : HeadId) (d : Head) : (s.setHead h d).gap = s.gap := by cases h <;> rfl
@[simp] theorem State.setHead_training (h : HeadId) (d : Head) : (s.setHead h d).training = s.training := by cases h <;> rfl
@[simp] theorem State.setHead_baselines (h : HeadId) (d : Head) : (s.setHead h d).baselines = s.baselines := by cases h <;> rfl
@[simp] theorem State.setHead_read (h : HeadId) (d : Head) : (s.setHead h d).read = s.read := by cases h <;> rfl
@[simp] theorem State.setHead_params (h : HeadId) (d : Head) : (s.setHead h d).params = s.params := by cases h <;> rfl
@[simp] theorem State.setHead_gateOut (h : HeadId) (d : Head) : (s.setHead h d).gateOut = s.gateOut := by cases h <;> rfl
@[simp] theorem State.setHead_lastRes (h : HeadId) (d : Head) : (s.setHead h d).lastRes = s.lastRes := by cases h <;> rfl
@[simp] theorem State.setHead_store (h : HeadId) (d : Head) : (s.setHead h d).store = s.store := by cases h <;> rfl
@[simp] theorem State.setHead_sort (h : HeadId) (d : Head) : (s.setHead h d).sort = s.sort := by cases h <;> rfl
@[simp] theorem State.setHead_bins (h : HeadId) (d : Head) : (s.setHead h d).bins = s.bins := by cases h <;> rfl
@[simp] theorem State.setHead_gates (h : HeadId) (d : Head) : (s.setHead h d).gates = s.gates := by cases h <;> rfl
@[simp] theorem State.setHead_live (h : HeadId) (d : Head) : (s.setHead h d).live = s.live := by cases h <;> rfl
@[simp] theorem State.setHead_snapshot (h : HeadId) (d : Head) : (s.setHead h d).snapshot = s.snapshot := by cases h <;> rfl
@[simp] theorem State.setHead_throughput (h : HeadId) (d : Head) : (s.setHead h d).throughput = s.throughput := by cases h <;> rfl
@[simp] theorem State.setHead_line (h : HeadId) (d : Head) : (s.setHead h d).line = s.line := by cases h <;> rfl
@[simp] theorem State.setHead_jamCause (h : HeadId) (d : Head) : (s.setHead h d).jamCause = s.jamCause := by cases h <;> rfl
@[simp] theorem State.setHead_jamCell (h : HeadId) (d : Head) : (s.setHead h d).jamCell = s.jamCell := by cases h <;> rfl
@[simp] theorem State.setHead_resetCause (h : HeadId) (d : Head) : (s.setHead h d).resetCause = s.resetCause := by cases h <;> rfl
@[simp] theorem State.setHead_resetLevel (h : HeadId) (d : Head) : (s.setHead h d).resetLevel = s.resetLevel := by cases h <;> rfl
@[simp] theorem State.setHead_portF (h : HeadId) (d : Head) : (s.setHead h d).portF = s.portF := by cases h <;> rfl
@[simp] theorem State.setHead_portP (h : HeadId) (d : Head) : (s.setHead h d).portP = s.portP := by cases h <;> rfl
@[simp] theorem State.setHead_portS (h : HeadId) (d : Head) : (s.setHead h d).portS = s.portS := by cases h <;> rfl
@[simp] theorem State.setHead_freeCount (h : HeadId) (d : Head) : (s.setHead h d).freeCount = s.freeCount := by cases h <;> rfl
@[simp] theorem State.setHead_pending (h : HeadId) (d : Head) : (s.setHead h d).pending = s.pending := by cases h <;> rfl

@[simp] theorem State.setBin_pos (b : Bin) (e : BinEntry) : (s.setBin b e).pos = s.pos := rfl
@[simp] theorem State.setBin_cells (b : Bin) (e : BinEntry) : (s.setBin b e).cells = s.cells := rfl
@[simp] theorem State.setBin_iOcc (b : Bin) (e : BinEntry) : (s.setBin b e).iOcc = s.iOcc := rfl
@[simp] theorem State.setBin_rOcc (b : Bin) (e : BinEntry) : (s.setBin b e).rOcc = s.rOcc := rfl
@[simp] theorem State.setBin_stallTimer (b : Bin) (e : BinEntry) : (s.setBin b e).stallTimer = s.stallTimer := rfl
@[simp] theorem State.setBin_track (b : Bin) (e : BinEntry) : (s.setBin b e).track = s.track := rfl
@[simp] theorem State.setBin_nextTag (b : Bin) (e : BinEntry) : (s.setBin b e).nextTag = s.nextTag := rfl
@[simp] theorem State.setBin_release (b : Bin) (e : BinEntry) : (s.setBin b e).release = s.release := rfl
@[simp] theorem State.setBin_gap (b : Bin) (e : BinEntry) : (s.setBin b e).gap = s.gap := rfl
@[simp] theorem State.setBin_training (b : Bin) (e : BinEntry) : (s.setBin b e).training = s.training := rfl
@[simp] theorem State.setBin_baselines (b : Bin) (e : BinEntry) : (s.setBin b e).baselines = s.baselines := rfl
@[simp] theorem State.setBin_read (b : Bin) (e : BinEntry) : (s.setBin b e).read = s.read := rfl
@[simp] theorem State.setBin_params (b : Bin) (e : BinEntry) : (s.setBin b e).params = s.params := rfl
@[simp] theorem State.setBin_gateOut (b : Bin) (e : BinEntry) : (s.setBin b e).gateOut = s.gateOut := rfl
@[simp] theorem State.setBin_lastRes (b : Bin) (e : BinEntry) : (s.setBin b e).lastRes = s.lastRes := rfl
@[simp] theorem State.setBin_headHigh (b : Bin) (e : BinEntry) : (s.setBin b e).headHigh = s.headHigh := rfl
@[simp] theorem State.setBin_headLow (b : Bin) (e : BinEntry) : (s.setBin b e).headLow = s.headLow := rfl
@[simp] theorem State.setBin_store (b : Bin) (e : BinEntry) : (s.setBin b e).store = s.store := rfl
@[simp] theorem State.setBin_sort (b : Bin) (e : BinEntry) : (s.setBin b e).sort = s.sort := rfl
@[simp] theorem State.setBin_gates (b : Bin) (e : BinEntry) : (s.setBin b e).gates = s.gates := rfl
@[simp] theorem State.setBin_live (b : Bin) (e : BinEntry) : (s.setBin b e).live = s.live := rfl
@[simp] theorem State.setBin_snapshot (b : Bin) (e : BinEntry) : (s.setBin b e).snapshot = s.snapshot := rfl
@[simp] theorem State.setBin_throughput (b : Bin) (e : BinEntry) : (s.setBin b e).throughput = s.throughput := rfl
@[simp] theorem State.setBin_line (b : Bin) (e : BinEntry) : (s.setBin b e).line = s.line := rfl
@[simp] theorem State.setBin_jamCause (b : Bin) (e : BinEntry) : (s.setBin b e).jamCause = s.jamCause := rfl
@[simp] theorem State.setBin_jamCell (b : Bin) (e : BinEntry) : (s.setBin b e).jamCell = s.jamCell := rfl
@[simp] theorem State.setBin_resetCause (b : Bin) (e : BinEntry) : (s.setBin b e).resetCause = s.resetCause := rfl
@[simp] theorem State.setBin_resetLevel (b : Bin) (e : BinEntry) : (s.setBin b e).resetLevel = s.resetLevel := rfl
@[simp] theorem State.setBin_portF (b : Bin) (e : BinEntry) : (s.setBin b e).portF = s.portF := rfl
@[simp] theorem State.setBin_portP (b : Bin) (e : BinEntry) : (s.setBin b e).portP = s.portP := rfl
@[simp] theorem State.setBin_portS (b : Bin) (e : BinEntry) : (s.setBin b e).portS = s.portS := rfl
@[simp] theorem State.setBin_freeCount (b : Bin) (e : BinEntry) : (s.setBin b e).freeCount = s.freeCount := rfl
@[simp] theorem State.setBin_pending (b : Bin) (e : BinEntry) : (s.setBin b e).pending = s.pending := rfl

@[simp] theorem State.setGate_pos (k : Fin 6) (g : TrayGate) : (s.setGate k g).pos = s.pos := rfl
@[simp] theorem State.setGate_cells (k : Fin 6) (g : TrayGate) : (s.setGate k g).cells = s.cells := rfl
@[simp] theorem State.setGate_iOcc (k : Fin 6) (g : TrayGate) : (s.setGate k g).iOcc = s.iOcc := rfl
@[simp] theorem State.setGate_rOcc (k : Fin 6) (g : TrayGate) : (s.setGate k g).rOcc = s.rOcc := rfl
@[simp] theorem State.setGate_stallTimer (k : Fin 6) (g : TrayGate) : (s.setGate k g).stallTimer = s.stallTimer := rfl
@[simp] theorem State.setGate_track (k : Fin 6) (g : TrayGate) : (s.setGate k g).track = s.track := rfl
@[simp] theorem State.setGate_nextTag (k : Fin 6) (g : TrayGate) : (s.setGate k g).nextTag = s.nextTag := rfl
@[simp] theorem State.setGate_release (k : Fin 6) (g : TrayGate) : (s.setGate k g).release = s.release := rfl
@[simp] theorem State.setGate_gap (k : Fin 6) (g : TrayGate) : (s.setGate k g).gap = s.gap := rfl
@[simp] theorem State.setGate_training (k : Fin 6) (g : TrayGate) : (s.setGate k g).training = s.training := rfl
@[simp] theorem State.setGate_baselines (k : Fin 6) (g : TrayGate) : (s.setGate k g).baselines = s.baselines := rfl
@[simp] theorem State.setGate_read (k : Fin 6) (g : TrayGate) : (s.setGate k g).read = s.read := rfl
@[simp] theorem State.setGate_params (k : Fin 6) (g : TrayGate) : (s.setGate k g).params = s.params := rfl
@[simp] theorem State.setGate_gateOut (k : Fin 6) (g : TrayGate) : (s.setGate k g).gateOut = s.gateOut := rfl
@[simp] theorem State.setGate_lastRes (k : Fin 6) (g : TrayGate) : (s.setGate k g).lastRes = s.lastRes := rfl
@[simp] theorem State.setGate_headHigh (k : Fin 6) (g : TrayGate) : (s.setGate k g).headHigh = s.headHigh := rfl
@[simp] theorem State.setGate_headLow (k : Fin 6) (g : TrayGate) : (s.setGate k g).headLow = s.headLow := rfl
@[simp] theorem State.setGate_store (k : Fin 6) (g : TrayGate) : (s.setGate k g).store = s.store := rfl
@[simp] theorem State.setGate_sort (k : Fin 6) (g : TrayGate) : (s.setGate k g).sort = s.sort := rfl
@[simp] theorem State.setGate_bins (k : Fin 6) (g : TrayGate) : (s.setGate k g).bins = s.bins := rfl
@[simp] theorem State.setGate_live (k : Fin 6) (g : TrayGate) : (s.setGate k g).live = s.live := rfl
@[simp] theorem State.setGate_snapshot (k : Fin 6) (g : TrayGate) : (s.setGate k g).snapshot = s.snapshot := rfl
@[simp] theorem State.setGate_throughput (k : Fin 6) (g : TrayGate) : (s.setGate k g).throughput = s.throughput := rfl
@[simp] theorem State.setGate_line (k : Fin 6) (g : TrayGate) : (s.setGate k g).line = s.line := rfl
@[simp] theorem State.setGate_jamCause (k : Fin 6) (g : TrayGate) : (s.setGate k g).jamCause = s.jamCause := rfl
@[simp] theorem State.setGate_jamCell (k : Fin 6) (g : TrayGate) : (s.setGate k g).jamCell = s.jamCell := rfl
@[simp] theorem State.setGate_resetCause (k : Fin 6) (g : TrayGate) : (s.setGate k g).resetCause = s.resetCause := rfl
@[simp] theorem State.setGate_resetLevel (k : Fin 6) (g : TrayGate) : (s.setGate k g).resetLevel = s.resetLevel := rfl
@[simp] theorem State.setGate_portF (k : Fin 6) (g : TrayGate) : (s.setGate k g).portF = s.portF := rfl
@[simp] theorem State.setGate_portP (k : Fin 6) (g : TrayGate) : (s.setGate k g).portP = s.portP := rfl
@[simp] theorem State.setGate_portS (k : Fin 6) (g : TrayGate) : (s.setGate k g).portS = s.portS := rfl
@[simp] theorem State.setGate_freeCount (k : Fin 6) (g : TrayGate) : (s.setGate k g).freeCount = s.freeCount := rfl
@[simp] theorem State.setGate_pending (k : Fin 6) (g : TrayGate) : (s.setGate k g).pending = s.pending := rfl

@[simp] theorem State.setSlot_pos (n : Fin 4) (m : Slot) : (s.setSlot n m).pos = s.pos := rfl
@[simp] theorem State.setSlot_cells (n : Fin 4) (m : Slot) : (s.setSlot n m).cells = s.cells := rfl
@[simp] theorem State.setSlot_iOcc (n : Fin 4) (m : Slot) : (s.setSlot n m).iOcc = s.iOcc := rfl
@[simp] theorem State.setSlot_rOcc (n : Fin 4) (m : Slot) : (s.setSlot n m).rOcc = s.rOcc := rfl
@[simp] theorem State.setSlot_stallTimer (n : Fin 4) (m : Slot) : (s.setSlot n m).stallTimer = s.stallTimer := rfl
@[simp] theorem State.setSlot_track (n : Fin 4) (m : Slot) : (s.setSlot n m).track = s.track := rfl
@[simp] theorem State.setSlot_nextTag (n : Fin 4) (m : Slot) : (s.setSlot n m).nextTag = s.nextTag := rfl
@[simp] theorem State.setSlot_release (n : Fin 4) (m : Slot) : (s.setSlot n m).release = s.release := rfl
@[simp] theorem State.setSlot_gap (n : Fin 4) (m : Slot) : (s.setSlot n m).gap = s.gap := rfl
@[simp] theorem State.setSlot_training (n : Fin 4) (m : Slot) : (s.setSlot n m).training = s.training := rfl
@[simp] theorem State.setSlot_baselines (n : Fin 4) (m : Slot) : (s.setSlot n m).baselines = s.baselines := rfl
@[simp] theorem State.setSlot_read (n : Fin 4) (m : Slot) : (s.setSlot n m).read = s.read := rfl
@[simp] theorem State.setSlot_params (n : Fin 4) (m : Slot) : (s.setSlot n m).params = s.params := rfl
@[simp] theorem State.setSlot_gateOut (n : Fin 4) (m : Slot) : (s.setSlot n m).gateOut = s.gateOut := rfl
@[simp] theorem State.setSlot_lastRes (n : Fin 4) (m : Slot) : (s.setSlot n m).lastRes = s.lastRes := rfl
@[simp] theorem State.setSlot_headHigh (n : Fin 4) (m : Slot) : (s.setSlot n m).headHigh = s.headHigh := rfl
@[simp] theorem State.setSlot_headLow (n : Fin 4) (m : Slot) : (s.setSlot n m).headLow = s.headLow := rfl
@[simp] theorem State.setSlot_sort (n : Fin 4) (m : Slot) : (s.setSlot n m).sort = s.sort := rfl
@[simp] theorem State.setSlot_bins (n : Fin 4) (m : Slot) : (s.setSlot n m).bins = s.bins := rfl
@[simp] theorem State.setSlot_gates (n : Fin 4) (m : Slot) : (s.setSlot n m).gates = s.gates := rfl
@[simp] theorem State.setSlot_live (n : Fin 4) (m : Slot) : (s.setSlot n m).live = s.live := rfl
@[simp] theorem State.setSlot_snapshot (n : Fin 4) (m : Slot) : (s.setSlot n m).snapshot = s.snapshot := rfl
@[simp] theorem State.setSlot_throughput (n : Fin 4) (m : Slot) : (s.setSlot n m).throughput = s.throughput := rfl
@[simp] theorem State.setSlot_line (n : Fin 4) (m : Slot) : (s.setSlot n m).line = s.line := rfl
@[simp] theorem State.setSlot_jamCause (n : Fin 4) (m : Slot) : (s.setSlot n m).jamCause = s.jamCause := rfl
@[simp] theorem State.setSlot_jamCell (n : Fin 4) (m : Slot) : (s.setSlot n m).jamCell = s.jamCell := rfl
@[simp] theorem State.setSlot_resetCause (n : Fin 4) (m : Slot) : (s.setSlot n m).resetCause = s.resetCause := rfl
@[simp] theorem State.setSlot_resetLevel (n : Fin 4) (m : Slot) : (s.setSlot n m).resetLevel = s.resetLevel := rfl
@[simp] theorem State.setSlot_portF (n : Fin 4) (m : Slot) : (s.setSlot n m).portF = s.portF := rfl
@[simp] theorem State.setSlot_portP (n : Fin 4) (m : Slot) : (s.setSlot n m).portP = s.portP := rfl
@[simp] theorem State.setSlot_portS (n : Fin 4) (m : Slot) : (s.setSlot n m).portS = s.portS := rfl
@[simp] theorem State.setSlot_freeCount (n : Fin 4) (m : Slot) : (s.setSlot n m).freeCount = s.freeCount := rfl
@[simp] theorem State.setSlot_pending (n : Fin 4) (m : Slot) : (s.setSlot n m).pending = s.pending := rfl

@[simp] theorem State.addTally_pos (t : Tally) (n : Nat) : (s.addTally t n).pos = s.pos := rfl
@[simp] theorem State.addTally_cells (t : Tally) (n : Nat) : (s.addTally t n).cells = s.cells := rfl
@[simp] theorem State.addTally_iOcc (t : Tally) (n : Nat) : (s.addTally t n).iOcc = s.iOcc := rfl
@[simp] theorem State.addTally_rOcc (t : Tally) (n : Nat) : (s.addTally t n).rOcc = s.rOcc := rfl
@[simp] theorem State.addTally_stallTimer (t : Tally) (n : Nat) : (s.addTally t n).stallTimer = s.stallTimer := rfl
@[simp] theorem State.addTally_track (t : Tally) (n : Nat) : (s.addTally t n).track = s.track := rfl
@[simp] theorem State.addTally_nextTag (t : Tally) (n : Nat) : (s.addTally t n).nextTag = s.nextTag := rfl
@[simp] theorem State.addTally_release (t : Tally) (n : Nat) : (s.addTally t n).release = s.release := rfl
@[simp] theorem State.addTally_gap (t : Tally) (n : Nat) : (s.addTally t n).gap = s.gap := rfl
@[simp] theorem State.addTally_training (t : Tally) (n : Nat) : (s.addTally t n).training = s.training := rfl
@[simp] theorem State.addTally_baselines (t : Tally) (n : Nat) : (s.addTally t n).baselines = s.baselines := rfl
@[simp] theorem State.addTally_read (t : Tally) (n : Nat) : (s.addTally t n).read = s.read := rfl
@[simp] theorem State.addTally_params (t : Tally) (n : Nat) : (s.addTally t n).params = s.params := rfl
@[simp] theorem State.addTally_gateOut (t : Tally) (n : Nat) : (s.addTally t n).gateOut = s.gateOut := rfl
@[simp] theorem State.addTally_lastRes (t : Tally) (n : Nat) : (s.addTally t n).lastRes = s.lastRes := rfl
@[simp] theorem State.addTally_headHigh (t : Tally) (n : Nat) : (s.addTally t n).headHigh = s.headHigh := rfl
@[simp] theorem State.addTally_headLow (t : Tally) (n : Nat) : (s.addTally t n).headLow = s.headLow := rfl
@[simp] theorem State.addTally_store (t : Tally) (n : Nat) : (s.addTally t n).store = s.store := rfl
@[simp] theorem State.addTally_sort (t : Tally) (n : Nat) : (s.addTally t n).sort = s.sort := rfl
@[simp] theorem State.addTally_bins (t : Tally) (n : Nat) : (s.addTally t n).bins = s.bins := rfl
@[simp] theorem State.addTally_gates (t : Tally) (n : Nat) : (s.addTally t n).gates = s.gates := rfl
@[simp] theorem State.addTally_snapshot (t : Tally) (n : Nat) : (s.addTally t n).snapshot = s.snapshot := rfl
@[simp] theorem State.addTally_throughput (t : Tally) (n : Nat) : (s.addTally t n).throughput = s.throughput := rfl
@[simp] theorem State.addTally_line (t : Tally) (n : Nat) : (s.addTally t n).line = s.line := rfl
@[simp] theorem State.addTally_jamCause (t : Tally) (n : Nat) : (s.addTally t n).jamCause = s.jamCause := rfl
@[simp] theorem State.addTally_jamCell (t : Tally) (n : Nat) : (s.addTally t n).jamCell = s.jamCell := rfl
@[simp] theorem State.addTally_resetCause (t : Tally) (n : Nat) : (s.addTally t n).resetCause = s.resetCause := rfl
@[simp] theorem State.addTally_resetLevel (t : Tally) (n : Nat) : (s.addTally t n).resetLevel = s.resetLevel := rfl
@[simp] theorem State.addTally_portF (t : Tally) (n : Nat) : (s.addTally t n).portF = s.portF := rfl
@[simp] theorem State.addTally_portP (t : Tally) (n : Nat) : (s.addTally t n).portP = s.portP := rfl
@[simp] theorem State.addTally_portS (t : Tally) (n : Nat) : (s.addTally t n).portS = s.portS := rfl
@[simp] theorem State.addTally_freeCount (t : Tally) (n : Nat) : (s.addTally t n).freeCount = s.freeCount := rfl
@[simp] theorem State.addTally_pending (t : Tally) (n : Nat) : (s.addTally t n).pending = s.pending := rfl

@[simp] theorem State.updRec_pos (t : Tag) (f : Record → Record) : (s.updRec t f).pos = s.pos := rfl
@[simp] theorem State.updRec_cells (t : Tag) (f : Record → Record) : (s.updRec t f).cells = s.cells := rfl
@[simp] theorem State.updRec_iOcc (t : Tag) (f : Record → Record) : (s.updRec t f).iOcc = s.iOcc := rfl
@[simp] theorem State.updRec_rOcc (t : Tag) (f : Record → Record) : (s.updRec t f).rOcc = s.rOcc := rfl
@[simp] theorem State.updRec_stallTimer (t : Tag) (f : Record → Record) : (s.updRec t f).stallTimer = s.stallTimer := rfl
@[simp] theorem State.updRec_nextTag (t : Tag) (f : Record → Record) : (s.updRec t f).nextTag = s.nextTag := rfl
@[simp] theorem State.updRec_release (t : Tag) (f : Record → Record) : (s.updRec t f).release = s.release := rfl
@[simp] theorem State.updRec_gap (t : Tag) (f : Record → Record) : (s.updRec t f).gap = s.gap := rfl
@[simp] theorem State.updRec_training (t : Tag) (f : Record → Record) : (s.updRec t f).training = s.training := rfl
@[simp] theorem State.updRec_baselines (t : Tag) (f : Record → Record) : (s.updRec t f).baselines = s.baselines := rfl
@[simp] theorem State.updRec_read (t : Tag) (f : Record → Record) : (s.updRec t f).read = s.read := rfl
@[simp] theorem State.updRec_params (t : Tag) (f : Record → Record) : (s.updRec t f).params = s.params := rfl
@[simp] theorem State.updRec_gateOut (t : Tag) (f : Record → Record) : (s.updRec t f).gateOut = s.gateOut := rfl
@[simp] theorem State.updRec_lastRes (t : Tag) (f : Record → Record) : (s.updRec t f).lastRes = s.lastRes := rfl
@[simp] theorem State.updRec_headHigh (t : Tag) (f : Record → Record) : (s.updRec t f).headHigh = s.headHigh := rfl
@[simp] theorem State.updRec_headLow (t : Tag) (f : Record → Record) : (s.updRec t f).headLow = s.headLow := rfl
@[simp] theorem State.updRec_store (t : Tag) (f : Record → Record) : (s.updRec t f).store = s.store := rfl
@[simp] theorem State.updRec_sort (t : Tag) (f : Record → Record) : (s.updRec t f).sort = s.sort := rfl
@[simp] theorem State.updRec_bins (t : Tag) (f : Record → Record) : (s.updRec t f).bins = s.bins := rfl
@[simp] theorem State.updRec_gates (t : Tag) (f : Record → Record) : (s.updRec t f).gates = s.gates := rfl
@[simp] theorem State.updRec_live (t : Tag) (f : Record → Record) : (s.updRec t f).live = s.live := rfl
@[simp] theorem State.updRec_snapshot (t : Tag) (f : Record → Record) : (s.updRec t f).snapshot = s.snapshot := rfl
@[simp] theorem State.updRec_throughput (t : Tag) (f : Record → Record) : (s.updRec t f).throughput = s.throughput := rfl
@[simp] theorem State.updRec_line (t : Tag) (f : Record → Record) : (s.updRec t f).line = s.line := rfl
@[simp] theorem State.updRec_jamCause (t : Tag) (f : Record → Record) : (s.updRec t f).jamCause = s.jamCause := rfl
@[simp] theorem State.updRec_jamCell (t : Tag) (f : Record → Record) : (s.updRec t f).jamCell = s.jamCell := rfl
@[simp] theorem State.updRec_resetCause (t : Tag) (f : Record → Record) : (s.updRec t f).resetCause = s.resetCause := rfl
@[simp] theorem State.updRec_resetLevel (t : Tag) (f : Record → Record) : (s.updRec t f).resetLevel = s.resetLevel := rfl
@[simp] theorem State.updRec_portF (t : Tag) (f : Record → Record) : (s.updRec t f).portF = s.portF := rfl
@[simp] theorem State.updRec_portP (t : Tag) (f : Record → Record) : (s.updRec t f).portP = s.portP := rfl
@[simp] theorem State.updRec_portS (t : Tag) (f : Record → Record) : (s.updRec t f).portS = s.portS := rfl
@[simp] theorem State.updRec_freeCount (t : Tag) (f : Record → Record) : (s.updRec t f).freeCount = s.freeCount := rfl
@[simp] theorem State.updRec_pending (t : Tag) (f : Record → Record) : (s.updRec t f).pending = s.pending := rfl

@[simp] theorem State.setMark_pos (t : Tag) (m : Mark) : (s.setMark t m).pos = s.pos := rfl
@[simp] theorem State.setMark_cells (t : Tag) (m : Mark) : (s.setMark t m).cells = s.cells := rfl
@[simp] theorem State.setMark_iOcc (t : Tag) (m : Mark) : (s.setMark t m).iOcc = s.iOcc := rfl
@[simp] theorem State.setMark_rOcc (t : Tag) (m : Mark) : (s.setMark t m).rOcc = s.rOcc := rfl
@[simp] theorem State.setMark_stallTimer (t : Tag) (m : Mark) : (s.setMark t m).stallTimer = s.stallTimer := rfl
@[simp] theorem State.setMark_nextTag (t : Tag) (m : Mark) : (s.setMark t m).nextTag = s.nextTag := rfl
@[simp] theorem State.setMark_release (t : Tag) (m : Mark) : (s.setMark t m).release = s.release := rfl
@[simp] theorem State.setMark_gap (t : Tag) (m : Mark) : (s.setMark t m).gap = s.gap := rfl
@[simp] theorem State.setMark_training (t : Tag) (m : Mark) : (s.setMark t m).training = s.training := rfl
@[simp] theorem State.setMark_baselines (t : Tag) (m : Mark) : (s.setMark t m).baselines = s.baselines := rfl
@[simp] theorem State.setMark_read (t : Tag) (m : Mark) : (s.setMark t m).read = s.read := rfl
@[simp] theorem State.setMark_params (t : Tag) (m : Mark) : (s.setMark t m).params = s.params := rfl
@[simp] theorem State.setMark_gateOut (t : Tag) (m : Mark) : (s.setMark t m).gateOut = s.gateOut := rfl
@[simp] theorem State.setMark_lastRes (t : Tag) (m : Mark) : (s.setMark t m).lastRes = s.lastRes := rfl
@[simp] theorem State.setMark_headHigh (t : Tag) (m : Mark) : (s.setMark t m).headHigh = s.headHigh := rfl
@[simp] theorem State.setMark_headLow (t : Tag) (m : Mark) : (s.setMark t m).headLow = s.headLow := rfl
@[simp] theorem State.setMark_store (t : Tag) (m : Mark) : (s.setMark t m).store = s.store := rfl
@[simp] theorem State.setMark_sort (t : Tag) (m : Mark) : (s.setMark t m).sort = s.sort := rfl
@[simp] theorem State.setMark_bins (t : Tag) (m : Mark) : (s.setMark t m).bins = s.bins := rfl
@[simp] theorem State.setMark_gates (t : Tag) (m : Mark) : (s.setMark t m).gates = s.gates := rfl
@[simp] theorem State.setMark_live (t : Tag) (m : Mark) : (s.setMark t m).live = s.live := rfl
@[simp] theorem State.setMark_snapshot (t : Tag) (m : Mark) : (s.setMark t m).snapshot = s.snapshot := rfl
@[simp] theorem State.setMark_throughput (t : Tag) (m : Mark) : (s.setMark t m).throughput = s.throughput := rfl
@[simp] theorem State.setMark_line (t : Tag) (m : Mark) : (s.setMark t m).line = s.line := rfl
@[simp] theorem State.setMark_jamCause (t : Tag) (m : Mark) : (s.setMark t m).jamCause = s.jamCause := rfl
@[simp] theorem State.setMark_jamCell (t : Tag) (m : Mark) : (s.setMark t m).jamCell = s.jamCell := rfl
@[simp] theorem State.setMark_resetCause (t : Tag) (m : Mark) : (s.setMark t m).resetCause = s.resetCause := rfl
@[simp] theorem State.setMark_resetLevel (t : Tag) (m : Mark) : (s.setMark t m).resetLevel = s.resetLevel := rfl
@[simp] theorem State.setMark_portF (t : Tag) (m : Mark) : (s.setMark t m).portF = s.portF := rfl
@[simp] theorem State.setMark_portP (t : Tag) (m : Mark) : (s.setMark t m).portP = s.portP := rfl
@[simp] theorem State.setMark_portS (t : Tag) (m : Mark) : (s.setMark t m).portS = s.portS := rfl
@[simp] theorem State.setMark_freeCount (t : Tag) (m : Mark) : (s.setMark t m).freeCount = s.freeCount := rfl
@[simp] theorem State.setMark_pending (t : Tag) (m : Mark) : (s.setMark t m).pending = s.pending := rfl

/-! ### Reading what was written -/

@[simp] theorem State.setPort_port (x : PortId) (p : Port) : (s.setPort x p).port x = p := by cases x <;> rfl

theorem State.setPort_port_ne {x y : PortId} (p : Port) (h : y ≠ x) : (s.setPort x p).port y = s.port y := by
  cases x <;> cases y <;> first | rfl | exact absurd rfl h

@[simp] theorem State.setPort_setPort (x : PortId) (p q : Port) : (s.setPort x p).setPort x q = s.setPort x q := by
  cases x <;> rfl

@[simp] theorem State.setPort_self (x : PortId) : s.setPort x (s.port x) = s := by cases x <;> rfl

@[simp] theorem State.setHead_head (h : HeadId) (d : Head) : (s.setHead h d).head h = d := by cases h <;> rfl

theorem State.setHead_head_ne {h k : HeadId} (d : Head) (n : k ≠ h) : (s.setHead h d).head k = s.head k := by
  cases h <;> cases k <;> first | rfl | exact absurd rfl n

@[simp] theorem State.setHead_self (h : HeadId) : s.setHead h (s.head h) = s := by cases h <;> rfl

@[simp] theorem State.setLevel_level (x : Cell) (l : Level) : (s.setLevel x l).level x = l := by
  simp [State.level, State.setLevel]

@[simp] theorem State.setBin_bin (b : Bin) (e : BinEntry) : (s.setBin b e).bin b = e := by
  simp [State.bin, State.setBin]

@[simp] theorem State.setSlot_slot (n : Fin 4) (m : Slot) : (s.setSlot n m).store[n] = m := by
  simp [State.setSlot]

@[simp] theorem State.setGate_gate (k : Fin 6) (g : TrayGate) : (s.setGate k g).gates[k] = g := by
  simp [State.setGate]

@[simp] theorem State.addTally_tally (t : Tally) (n : Nat) :
    (s.addTally t n).tally t = min (s.tally t + n) tallyMax := by
  simp [State.tally, State.addTally]

/-! ### Ports, heads and levels after updates of other fields -/

@[simp] theorem State.setLevel_port (x : Cell) (l : Level) (y : PortId) : (s.setLevel x l).port y = s.port y := by
  cases y <;> simp [State.port]
@[simp] theorem State.setLevel_head (x : Cell) (l : Level) (h' : HeadId) : (s.setLevel x l).head h' = s.head h' := by
  cases h' <;> simp [State.head]
@[simp] theorem State.setLevel_bin (x : Cell) (l : Level) (b' : Bin) : (s.setLevel x l).bin b' = s.bin b' := by
  simp [State.bin]
@[simp] theorem State.setPort_head (x : PortId) (p : Port) (h' : HeadId) : (s.setPort x p).head h' = s.head h' := by
  cases h' <;> simp [State.head]
@[simp] theorem State.setPort_level (x : PortId) (p : Port) (y : Cell) : (s.setPort x p).level y = s.level y := by
  simp [State.level]
@[simp] theorem State.setPort_bin (x : PortId) (p : Port) (b' : Bin) : (s.setPort x p).bin b' = s.bin b' := by
  simp [State.bin]
@[simp] theorem State.setHead_port (h : HeadId) (d : Head) (y : PortId) : (s.setHead h d).port y = s.port y := by
  cases y <;> simp [State.port]
@[simp] theorem State.setHead_level (h : HeadId) (d : Head) (y : Cell) : (s.setHead h d).level y = s.level y := by
  simp [State.level]
@[simp] theorem State.setHead_bin (h : HeadId) (d : Head) (b' : Bin) : (s.setHead h d).bin b' = s.bin b' := by
  simp [State.bin]
@[simp] theorem State.setBin_port (b : Bin) (e : BinEntry) (y : PortId) : (s.setBin b e).port y = s.port y := by
  cases y <;> simp [State.port]
@[simp] theorem State.setBin_head (b : Bin) (e : BinEntry) (h' : HeadId) : (s.setBin b e).head h' = s.head h' := by
  cases h' <;> simp [State.head]
@[simp] theorem State.setBin_level (b : Bin) (e : BinEntry) (y : Cell) : (s.setBin b e).level y = s.level y := by
  simp [State.level]
@[simp] theorem State.setGate_port (k : Fin 6) (g : TrayGate) (y : PortId) : (s.setGate k g).port y = s.port y := by
  cases y <;> simp [State.port]
@[simp] theorem State.setGate_head (k : Fin 6) (g : TrayGate) (h' : HeadId) : (s.setGate k g).head h' = s.head h' := by
  cases h' <;> simp [State.head]
@[simp] theorem State.setGate_level (k : Fin 6) (g : TrayGate) (y : Cell) : (s.setGate k g).level y = s.level y := by
  simp [State.level]
@[simp] theorem State.setGate_bin (k : Fin 6) (g : TrayGate) (b' : Bin) : (s.setGate k g).bin b' = s.bin b' := by
  simp [State.bin]
@[simp] theorem State.setSlot_port (n : Fin 4) (m : Slot) (y : PortId) : (s.setSlot n m).port y = s.port y := by
  cases y <;> simp [State.port]
@[simp] theorem State.setSlot_head (n : Fin 4) (m : Slot) (h' : HeadId) : (s.setSlot n m).head h' = s.head h' := by
  cases h' <;> simp [State.head]
@[simp] theorem State.setSlot_level (n : Fin 4) (m : Slot) (y : Cell) : (s.setSlot n m).level y = s.level y := by
  simp [State.level]
@[simp] theorem State.setSlot_bin (n : Fin 4) (m : Slot) (b' : Bin) : (s.setSlot n m).bin b' = s.bin b' := by
  simp [State.bin]
@[simp] theorem State.addTally_port (t : Tally) (n : Nat) (y : PortId) : (s.addTally t n).port y = s.port y := by
  cases y <;> simp [State.port]
@[simp] theorem State.addTally_head (t : Tally) (n : Nat) (h' : HeadId) : (s.addTally t n).head h' = s.head h' := by
  cases h' <;> simp [State.head]
@[simp] theorem State.addTally_level (t : Tally) (n : Nat) (y : Cell) : (s.addTally t n).level y = s.level y := by
  simp [State.level]
@[simp] theorem State.addTally_bin (t : Tally) (n : Nat) (b' : Bin) : (s.addTally t n).bin b' = s.bin b' := by
  simp [State.bin]
@[simp] theorem State.updRec_port (t : Tag) (f : Record → Record) (y : PortId) : (s.updRec t f).port y = s.port y := by
  cases y <;> simp [State.port]
@[simp] theorem State.updRec_head (t : Tag) (f : Record → Record) (h' : HeadId) : (s.updRec t f).head h' = s.head h' := by
  cases h' <;> simp [State.head]
@[simp] theorem State.updRec_level (t : Tag) (f : Record → Record) (y : Cell) : (s.updRec t f).level y = s.level y := by
  simp [State.level]
@[simp] theorem State.updRec_bin (t : Tag) (f : Record → Record) (b' : Bin) : (s.updRec t f).bin b' = s.bin b' := by
  simp [State.bin]
@[simp] theorem State.setMark_port (t : Tag) (m : Mark) (y : PortId) : (s.setMark t m).port y = s.port y := by
  cases y <;> simp [State.port]
@[simp] theorem State.setMark_head (t : Tag) (m : Mark) (h' : HeadId) : (s.setMark t m).head h' = s.head h' := by
  cases h' <;> simp [State.head]
@[simp] theorem State.setMark_level (t : Tag) (m : Mark) (y : Cell) : (s.setMark t m).level y = s.level y := by
  simp [State.level]
@[simp] theorem State.setMark_bin (t : Tag) (m : Mark) (b' : Bin) : (s.setMark t m).bin b' = s.bin b' := by
  simp [State.bin]

end

end Sys2Proof.Machine
end

