-- ==== Sys2Proof/Laws/Frame.lean ====
section
/-! SUPPORT. Laws/Frame.lean: what the transport side of the machine leaves alone. `LineFrame s t` says that `t` has the
parameters, sort plan, snapshot, reset record, queue and cell levels of `s`, and at each port its operand ring, mask, held
access and data byte. It is transitive, and every operation of the transport blocks satisfies it. -/

namespace Sys2Proof.Machine

/-- The parts of a port that only its own accesses change. -/
structure SamePort (p q : Port) : Prop where
  ring : q.ring = p.ring
  mask : q.mask = p.mask
  held : q.held = p.held
  out  : q.out = p.out

/-- The parts of the state that no transport block changes. -/
structure LineFrame (s t : State) : Prop where
  params     : t.params = s.params
  sort       : t.sort = s.sort
  snapshot   : t.snapshot = s.snapshot
  cells      : t.cells = s.cells
  resetCause : t.resetCause = s.resetCause
  resetLevel : t.resetLevel = s.resetLevel
  freeCount  : t.freeCount = s.freeCount
  pending    : t.pending = s.pending
  ports      : ∀ x, SamePort (s.port x) (t.port x)

theorem SamePort.refl (p : Port) : SamePort p p := ⟨rfl, rfl, rfl, rfl⟩

theorem SamePort.trans {p q r : Port} (h : SamePort p q) (k : SamePort q r) : SamePort p r :=
  ⟨k.ring.trans h.ring, k.mask.trans h.mask, k.held.trans h.held, k.out.trans h.out⟩

theorem LineFrame.refl (s : State) : LineFrame s s :=
  ⟨rfl, rfl, rfl, rfl, rfl, rfl, rfl, rfl, fun _ => SamePort.refl _⟩

theorem LineFrame.trans {s t u : State} (h : LineFrame s t) (k : LineFrame t u) : LineFrame s u :=
  ⟨k.params.trans h.params, k.sort.trans h.sort, k.snapshot.trans h.snapshot, k.cells.trans h.cells,
    k.resetCause.trans h.resetCause, k.resetLevel.trans h.resetLevel, k.freeCount.trans h.freeCount,
    k.pending.trans h.pending, fun x => (h.ports x).trans (k.ports x)⟩

/-- A state that differs from `s` in none of the framed fields and has its ports. -/
theorem LineFrame.of_ports {s t : State} (params : t.params = s.params) (sort : t.sort = s.sort)
    (snapshot : t.snapshot = s.snapshot) (cells : t.cells = s.cells) (cause : t.resetCause = s.resetCause)
    (level : t.resetLevel = s.resetLevel) (free : t.freeCount = s.freeCount) (pending : t.pending = s.pending)
    (ports : ∀ x, t.port x = s.port x) : LineFrame s t :=
  ⟨params, sort, snapshot, cells, cause, level, free, pending, fun x => by rw [ports x]; exact SamePort.refl _⟩

/-- A port update that keeps ring, mask, held access and data byte. -/
theorem setPort_frame (s : State) (x : PortId) (p : Port) (h : SamePort (s.port x) p) : LineFrame s (s.setPort x p) :=
  ⟨by simp, by simp, by simp, by simp, by simp, by simp, by simp, by simp, fun y => by
    by_cases e : y = x
    · subst e; simpa using h
    · rw [State.setPort_port_ne _ _ e]; exact SamePort.refl _⟩

section
variable (s : State)

theorem setHead_frame (h : HeadId) (d : Head) : LineFrame s (s.setHead h d) := by
  apply LineFrame.of_ports <;> simp

theorem setBin_frame (b : Bin) (e : BinEntry) : LineFrame s (s.setBin b e) := by
  apply LineFrame.of_ports <;> simp

theorem setGate_frame (k : Fin 6) (g : TrayGate) : LineFrame s (s.setGate k g) := by
  apply LineFrame.of_ports <;> simp

theorem setSlot_frame (n : Fin 4) (m : Slot) : LineFrame s (s.setSlot n m) := by
  apply LineFrame.of_ports <;> simp

theorem addTally_frame (t : Tally) (n : Nat) : LineFrame s (s.addTally t n) := by
  apply LineFrame.of_ports <;> simp

theorem updRec_frame (t : Tag) (f : Record → Record) : LineFrame s (s.updRec t f) := by
  apply LineFrame.of_ports <;> simp

theorem setMark_frame (t : Tag) (m : Mark) : LineFrame s (s.setMark t m) := updRec_frame s t _

theorem raise_frame (x : PortId) (n : Notice) : LineFrame s (s.raise x n) := by
  unfold State.raise
  split
  · exact LineFrame.refl s
  · exact setPort_frame s x _ ⟨rfl, rfl, rfl, rfl⟩

theorem bumpBy_frame (t : Tally) (n : Nat) : LineFrame s (s.bumpBy t n) := by
  unfold State.bumpBy
  split
  · exact (addTally_frame s t n).trans (raise_frame _ _ _)
  · exact addTally_frame s t n

theorem bump_frame (t : Tally) : LineFrame s (s.bump t) := bumpBy_frame s t 1

theorem bumpIf_frame (t : Option Tally) : LineFrame s (s.bumpIf t) := by
  cases t
  · exact LineFrame.refl s
  · exact bump_frame s _

theorem complete_frame (x : PortId) (call : Bool) (c : Code) : LineFrame s (s.complete x call c) :=
  setPort_frame s x _ ⟨rfl, rfl, rfl, rfl⟩

theorem completeFlight_frame (x : PortId) (c : Code) : LineFrame s (s.completeFlight x c) := by
  unfold State.completeFlight
  split
  · exact LineFrame.refl s
  · exact complete_frame s x _ c

theorem setFlight_frame (x : PortId) (k : Flight) : LineFrame s (s.setFlight x k) :=
  setPort_frame s x _ ⟨rfl, rfl, rfl, rfl⟩

theorem afterRemoval_frame : LineFrame s s.afterRemoval := by
  unfold State.afterRemoval
  split
  · exact LineFrame.of_ports rfl rfl rfl rfl rfl rfl rfl rfl (fun x => by cases x <;> rfl)
  · exact LineFrame.refl s

/-! ### Stacker -/

theorem stepGates_frame : LineFrame s s.stepGates :=
  LineFrame.of_ports rfl rfl rfl rfl rfl rfl rfl rfl (fun x => by cases x <;> rfl)

theorem enterFull_frame (b : Bin) : LineFrame s (s.enterFull b) := by
  unfold State.enterFull
  have h := (setBin_frame s b { s.bin b with state := .full }).trans (raise_frame _ .super .trayFull)
  dsimp only
  split
  · exact h.trans (raise_frame _ _ _)
  · exact h

theorem addGateWindow_frame (b : Bin) (t : Tag) (a : Pos) (lp : Option Nat) :
    LineFrame s (s.addGateWindow b t a lp) := by
  unfold State.addGateWindow
  split
  · exact LineFrame.refl s
  · exact setGate_frame s _ _

theorem bind_frame (t : Tag) (a : Pos) (lp : Option Nat) (e : SortEntry) : LineFrame s (s.bind t a lp e) :=
  ((setBin_frame s _ _).trans (updRec_frame _ _ _)).trans (addGateWindow_frame _ _ _ _ _)

theorem closeGateWindow_frame (r : Record) (n : Nat) : LineFrame s (s.closeGateWindow r n) := by
  unfold State.closeGateWindow
  split
  · exact setGate_frame s _ _
  · exact LineFrame.refl s

theorem moveGateWindow_frame (r : Record) (d : Pos) : LineFrame s (s.moveGateWindow r d) := by
  unfold State.moveGateWindow
  split
  · exact setGate_frame s _ _
  · exact LineFrame.refl s

theorem holdGate_frame (b : Bin) (t : Tag) : LineFrame s (s.holdGate b t) := by
  unfold State.holdGate
  split
  · exact LineFrame.refl s
  · exact setGate_frame s _ _

theorem countArrival_frame (b : Bin) (t : Tag) : LineFrame s (s.countArrival b t) := by
  unfold State.countArrival
  dsimp only
  split
  · exact ((((setBin_frame s _ _).trans (bump_frame _ _)).trans (bump_frame _ _)).trans (holdGate_frame _ _ _)).trans
      (enterFull_frame _ _)
  · exact (((setBin_frame s _ _).trans (bump_frame _ _)).trans (bump_frame _ _)).trans (holdGate_frame _ _ _)

theorem endSwap_frame (b : Bin) : LineFrame s (s.endSwap b) := by
  unfold State.endSwap
  split
  · exact setBin_frame s _ _
  · exact enterFull_frame s b

theorem setCapacity_frame (b : Bin) (v : Nat) : LineFrame s (s.setCapacity b v) := by
  unfold State.setCapacity
  dsimp only
  split
  · exact (setBin_frame s _ _).trans (enterFull_frame _ _)
  · split
    · exact (setBin_frame s _ _).trans (setBin_frame _ _ _)
    · exact setBin_frame s _ _

/-! ### Cancel unit -/

theorem countDone_frame (r : Reservation) : LineFrame s (s.countDone r) := by
  unfold State.countDone
  dsimp only
  split
  · exact LineFrame.refl s
  · split
    · exact (bump_frame s _).trans (setMark_frame _ _ _)
    · exact bump_frame s _

theorem stepHead_frame (h : HeadId) : LineFrame s (s.stepHead h) := by
  unfold State.stepHead
  dsimp only
  split
  · exact setHead_frame s _ _
  · split
    · exact setHead_frame s _ _
    · exact setHead_frame s _ _
    · exact setHead_frame s _ _
    · split
      · exact (countDone_frame s _).trans (setHead_frame _ _ _)
      · exact setHead_frame s _ _

theorem stepHeads_frame : LineFrame s s.stepHeads := (stepHead_frame s .high).trans (stepHead_frame _ .low)

theorem giveUp_frame (t : Tag) (r : Reason) : LineFrame s (s.giveUp t r) :=
  (setMark_frame s _ _).trans (bump_frame _ _)

theorem conflictMark_frame (t : Tag) : LineFrame s (s.conflictMark t) :=
  ((setMark_frame s _ _).trans (bump_frame _ _)).trans (raise_frame _ _ _)

theorem scheduleMark_frame (h : HeadId) (t : Tag) (r : Reservation) : LineFrame s (s.scheduleMark h t r) := by
  unfold State.scheduleMark
  split
  · exact conflictMark_frame s t
  · exact (setHead_frame s _ _).trans (setMark_frame _ _ _)

theorem requestMark_frame (q : MarkRequest) : LineFrame s (s.requestMark q) := by
  unfold State.requestMark
  dsimp only
  have h := setSlot_frame s q.slot s.store[q.slot].adopt
  split
  · exact h.trans (giveUp_frame _ _ _)
  · split
    · exact (h.trans (giveUp_frame _ _ _)).trans (raise_frame _ _ _)
    · split
      · exact (h.trans (giveUp_frame _ _ _)).trans (raise_frame _ _ _)
      · exact h.trans (scheduleMark_frame _ _ _ _)

theorem moveMark_frame (r : Record) (d : Pos) : LineFrame s (s.moveMark r d) := by
  unfold State.moveMark
  split
  · dsimp only
    split
    · exact (setHead_frame s _ _).trans (conflictMark_frame _ _)
    · exact setHead_frame s _ _
  · exact LineFrame.refl s

theorem departMark_frame (r : Record) : LineFrame s (s.departMark r) := by
  unfold State.departMark
  split
  · dsimp only
    split
    · exact ((setHead_frame s _ _).trans (bump_frame _ _)).trans (raise_frame _ _ _)
    · exact setHead_frame s _ _
  · exact LineFrame.refl s

theorem outcome_frame (r : Reservation) (m : Mark) : LineFrame s (s.outcome r m) := by
  unfold State.outcome
  split
  · exact setMark_frame s _ _
  · exact LineFrame.refl s

theorem settleUnbegun_frame (j : Bool) (r : Reservation) : LineFrame s (s.settleUnbegun j r) := by
  unfold State.settleUnbegun
  split
  · exact LineFrame.refl s
  · split
    · exact outcome_frame s _ _
    · exact (outcome_frame s _ _).trans (bump_frame _ _)

theorem settleActive_frame (j : Bool) (st : HeadState) (r : Reservation) : LineFrame s (s.settleActive j st r) := by
  unfold State.settleActive
  split
  · exact LineFrame.refl s
  · split
    · dsimp only
      split
      · exact (outcome_frame s _ _).trans (bump_frame _ _)
      · exact ((outcome_frame s _ _).trans (bump_frame _ _)).trans (raise_frame _ _ _)
    · exact (outcome_frame s _ _).trans (bump_frame _ _)
    · exact settleUnbegun_frame s j r

theorem settleSlot_frame (f : State → Reservation → State) (hf : ∀ s r, LineFrame s (f s r)) (o : Option Reservation) :
    LineFrame s (s.settleSlot f o) := by
  cases o
  · exact LineFrame.refl s
  · exact hf s _

theorem settleHead_frame (j : Bool) (h : HeadId) : LineFrame s (s.settleHead j h) :=
  (settleSlot_frame s _ (fun s r => settleActive_frame s j _ r) _).trans
    (settleSlot_frame _ _ (fun s r => settleUnbegun_frame s j r) _)

theorem jamHead_frame (h : HeadId) : LineFrame s (s.jamHead h) :=
  (settleHead_frame s true h).trans (setHead_frame _ _ _)

theorem takeOffline_frame (h : HeadId) : LineFrame s (s.takeOffline h) := by
  unfold State.takeOffline
  split
  · exact LineFrame.refl s
  · exact (settleHead_frame s false h).trans (setHead_frame _ _ _)

/-! ### Facing planner -/

theorem driveGate_frame (g : GatePlan) : LineFrame s (s.driveGate g) := by
  unfold State.driveGate
  split
  · exact LineFrame.of_ports rfl rfl rfl rfl rfl rfl rfl rfl (fun x => by cases x <;> rfl)
  · exact LineFrame.refl s

theorem planMark_frame (t : Tag) (a : Pos) (k : Classified) (g : GatePlan) (c : Bool) (e : SortEntry) (lp : Nat) :
    LineFrame s (s.planMark t a k g c e lp) := by
  unfold State.planMark
  split
  · split
    · exact requestMark_frame s _
    · exact setMark_frame s _ _
  · exact setMark_frame s _ _

theorem setLast_frame (l : Option FlipReservation) : LineFrame s { s with lastRes := l } :=
  LineFrame.of_ports rfl rfl rfl rfl rfl rfl rfl rfl (fun x => by cases x <;> rfl)

theorem planFacing_frame (t : Tag) (k : Classified) (g : GatePlan) (c : Bool) :
    LineFrame s (s.planFacing t k g c) :=
  (((bump_frame s (.cls k.cls)).trans (bumpIf_frame _ _)).trans (setLast_frame _ _)).trans (updRec_frame _ _ _)

theorem plan_frame (t : Tag) (v : Verdict) : LineFrame s (s.plan t v) := by
  unfold State.plan
  split
  · exact LineFrame.refl s
  · exact ((((planFacing_frame s _ _ _ _).trans (planMark_frame _ _ _ _ _ _ _ _)).trans (bind_frame _ _ _ _ _)).trans
      (updRec_frame _ _ _)).trans (driveGate_frame _ _)

theorem stepFlip_frame : LineFrame s s.stepFlip := by
  unfold State.stepFlip
  split
  · split
    · exact LineFrame.refl s
    · split
      · exact LineFrame.refl s
      · exact LineFrame.of_ports rfl rfl rfl rfl rfl rfl rfl rfl (fun x => by cases x <;> rfl)
  · exact LineFrame.refl s

theorem retire_frame : LineFrame s s.retire := by
  unfold State.retire
  split
  · exact LineFrame.refl s
  · split
    · exact setLast_frame s none
    · exact LineFrame.refl s

theorem closeFlip_frame (r : Record) (n : Nat) : LineFrame s (s.closeFlip r n) := by
  unfold State.closeFlip
  dsimp only
  split
  · exact updRec_frame s _ _
  · split
    · exact (updRec_frame s _ _).trans (setLast_frame _ _)
    · exact updRec_frame s _ _

theorem moveFlip_frame (r : Record) (d : Pos) : LineFrame s (s.moveFlip r d) := by
  unfold State.moveFlip
  split
  · exact LineFrame.refl s
  · dsimp only
    split
    · exact updRec_frame s _ _
    · split
      · split
        · exact (updRec_frame s _ _).trans (setLast_frame _ _)
        · exact (updRec_frame s _ _).trans (setLast_frame _ _)
      · exact updRec_frame s _ _

/-! ### Stamp reader -/

theorem setRead_frame (r : ReadState) : LineFrame s { s with read := r } :=
  LineFrame.of_ports rfl rfl rfl rfl rfl rfl rfl rfl (fun x => by cases x <;> rfl)

theorem startRead_frame (t : Tag) : LineFrame s (s.startRead t) :=
  LineFrame.of_ports rfl rfl rfl rfl rfl rfl rfl rfl (fun x => by cases x <;> rfl)

theorem writeFindings_frame (t : Tag) (ch : Vector Channel 8) : LineFrame s (s.writeFindings t ch) := by
  unfold State.writeFindings
  dsimp only
  split
  · exact (updRec_frame s _ _).trans (bump_frame _ _)
  · exact updRec_frame s _ _

theorem readSample_frame (r : Reading) (ch : Vector Channel 8) (z : Samples) : LineFrame s (s.readSample r ch z) := by
  unfold State.readSample
  dsimp only
  split <;> exact setRead_frame s _

theorem abandonRead_frame (r : Reading) (ch : Vector Channel 8) : LineFrame s (s.abandonRead r ch) :=
  ((writeFindings_frame s _ _).trans (setRead_frame _ _)).trans (plan_frame _ _ _)

theorem abandonIfDue_frame : LineFrame s s.abandonIfDue := by
  unfold State.abandonIfDue
  split
  · split
    · exact abandonRead_frame s _ _
    · exact LineFrame.refl s
  · exact LineFrame.refl s

theorem completeRead_frame (r : Reading) (ch : Vector Channel 8) : LineFrame s (s.completeRead r ch) :=
  (((updRec_frame s _ _).trans (writeFindings_frame _ _ _)).trans (setRead_frame _ _)).trans (plan_frame _ _ _)

theorem closeWindows_frame (t : Tag) (n : Nat) : LineFrame s (s.closeWindows t n) := by
  unfold State.closeWindows
  split
  · exact LineFrame.refl s
  · exact (closeFlip_frame s _ _).trans (closeGateWindow_frame _ _ _)

theorem completeOverrun_frame (r : Reading) : LineFrame s (s.completeOverrun r) :=
  ((updRec_frame s _ _).trans (setRead_frame _ _)).trans (closeWindows_frame _ _ _)

theorem endRead_frame (t : Tag) : LineFrame s (s.endRead t) := by
  unfold State.endRead
  split
  · split
    · exact completeRead_frame s _ _
    · exact LineFrame.refl s
  · split
    · exact completeOverrun_frame s _
    · exact LineFrame.refl s
  · exact LineFrame.refl s

theorem leaveRead_frame (t : Tag) : LineFrame s (s.leaveRead t) := by
  unfold State.leaveRead
  split
  · split
    · exact setRead_frame s _
    · exact LineFrame.refl s
  · split
    · exact (setRead_frame s _).trans (closeWindows_frame _ _ _)
    · exact LineFrame.refl s
  · exact LineFrame.refl s

theorem jamRead_frame : LineFrame s s.jamRead := by
  unfold State.jamRead
  split
  · exact (updRec_frame s _ _).trans (setRead_frame _ _)
  · exact (updRec_frame s _ _).trans (setRead_frame _ _)
  · exact LineFrame.refl s

theorem train_frame (z : Samples) : LineFrame s (s.train z) := by
  unfold State.train
  dsimp only
  split
  · refine LineFrame.trans ?_ (raise_frame _ _ _)
    exact LineFrame.of_ports rfl rfl rfl rfl rfl rfl rfl rfl (fun x => by cases x <;> rfl)
  · exact LineFrame.of_ports rfl rfl rfl rfl rfl rfl rfl rfl (fun x => by cases x <;> rfl)

theorem useSamples_frame (l : LineState) (z : Samples) : LineFrame s (s.useSamples l z) := by
  unfold State.useSamples
  split
  · split
    · exact train_frame s z
    · exact LineFrame.refl s
  · split
    · split
      · exact readSample_frame s _ _ z
      · exact setRead_frame s _
      · exact LineFrame.refl s
    · exact LineFrame.refl s

/-! ### Checkpoint unit -/

theorem jamInduction_frame : LineFrame s s.jamInduction := by
  have h : LineFrame s { s with release := .none } :=
    LineFrame.of_ports rfl rfl rfl rfl rfl rfl rfl rfl (fun x => by cases x <;> rfl)
  unfold State.jamInduction
  dsimp only
  split
  · exact h.trans (completeFlight_frame _ _ _)
  · exact h.trans (completeFlight_frame _ _ _)
  · exact h

theorem enterJam_frame (c : JamCause) (x : Cell) : LineFrame s (s.enterJam c x) := by
  unfold State.enterJam
  have h : LineFrame s { s with line := .jammed, jamCause := c, jamCell := some x } :=
    LineFrame.of_ports rfl rfl rfl rfl rfl rfl rfl rfl (fun x => by cases x <;> rfl)
  exact (((h.trans (bump_frame _ _)).trans (raise_frame _ _ _)).trans (raise_frame _ _ _)).trans (raise_frame _ _ _)

theorem jam_frame (c : JamCause) (x : Cell) : LineFrame s (s.jam c x) := by
  unfold State.jam
  refine LineFrame.trans ?_ (jamInduction_frame _)
  refine LineFrame.trans ((((enterJam_frame s c x).trans (jamRead_frame _)).trans (jamHead_frame _ .high)).trans
    (jamHead_frame _ .low)) ?_
  exact LineFrame.of_ports rfl rfl rfl rfl rfl rfl rfl rfl (fun x => by cases x <;> rfl)

theorem strayJam_frame (x : Cell) : LineFrame s (s.strayJam x) := (bump_frame s _).trans (jam_frame _ _ _)

theorem reAnchor_frame (r : Record) (n : Nat) : LineFrame s (s.reAnchor r n) := by
  unfold State.reAnchor
  dsimp only
  split
  · exact LineFrame.refl s
  · exact ((((bump_frame s _).trans (updRec_frame _ _ _)).trans (moveFlip_frame _ _ _)).trans
      (moveGateWindow_frame _ _ _)).trans (moveMark_frame _ _ _)

theorem removeRec_frame (t : Tag) : LineFrame s (s.removeRec t) := by
  unfold State.removeRec
  refine LineFrame.trans ?_ (afterRemoval_frame _)
  exact LineFrame.of_ports rfl rfl rfl rfl rfl rfl rfl rfl (fun x => by cases x <;> rfl)

theorem arrival_frame (r : Record) (b : Bin) : LineFrame s (s.arrival r b) :=
  (((leaveRead_frame s _).trans (countArrival_frame _ _ _)).trans (departMark_frame _ _)).trans (removeRec_frame _ _)

theorem matched_frame (x : Cell) (r : Record) : LineFrame s (s.matched x r) := by
  unfold State.matched
  split
  · exact arrival_frame s _ _
  · dsimp only
    split
    · exact ((reAnchor_frame s _ _).trans (updRec_frame _ _ _)).trans (startRead_frame _ _)
    · exact (reAnchor_frame s _ _).trans (updRec_frame _ _ _)

theorem matchEdge_frame (x : Cell) : LineFrame s (s.matchEdge x) := by
  unfold State.matchEdge
  split
  · exact strayJam_frame s x
  · split
    · exact matched_frame s x _
    · exact strayJam_frame s x

theorem createRecord_frame : LineFrame s s.createRecord := by
  unfold State.createRecord
  refine LineFrame.trans ?_ (bump_frame _ _)
  exact LineFrame.of_ports rfl rfl rfl rfl rfl rfl rfl rfl (fun x => by cases x <;> rfl)

theorem leadAtI_frame : LineFrame s s.leadAtI := by
  unfold State.leadAtI
  split
  · split
    · exact createRecord_frame s
    · exact strayJam_frame s _
  · exact strayJam_frame s _

theorem judgeLead_frame (x : Cell) : LineFrame s (s.judgeLead x) := by
  unfold State.judgeLead
  split
  · split
    · exact leadAtI_frame s
    · exact matchEdge_frame s x
  · split
    · exact leadAtI_frame s
    · exact matchEdge_frame s x
  · exact bump_frame s _
  · exact bump_frame s _
  · exact LineFrame.refl s

theorem judgeTrail_frame (x : Cell) : LineFrame s (s.judgeTrail x) := by
  unfold State.judgeTrail
  split
  · split
    · exact LineFrame.refl s
    · exact LineFrame.of_ports rfl rfl rfl rfl rfl rfl rfl rfl (fun x => by cases x <;> rfl)
  · split
    · exact LineFrame.refl s
    · refine LineFrame.trans ?_ (endRead_frame _ _)
      exact LineFrame.of_ports rfl rfl rfl rfl rfl rfl rfl rfl (fun x => by cases x <;> rfl)
  · exact LineFrame.refl s

theorem missingCheck_frame : LineFrame s s.missingCheck := by
  unfold State.missingCheck
  split
  · split
    · exact LineFrame.refl s
    · split
      · exact LineFrame.refl s
      · exact jam_frame s _ _
  · exact LineFrame.refl s

theorem expireGrant_frame : LineFrame s s.expireGrant := by
  unfold State.expireGrant
  split
  · split
    · refine LineFrame.trans ((raise_frame s .feed .feedMiss).trans (bump_frame _ .feedMisses)) ?_
      exact LineFrame.of_ports rfl rfl rfl rfl rfl rfl rfl rfl (fun x => by cases x <;> rfl)
    · exact LineFrame.refl s
  · exact LineFrame.refl s

theorem wake_frame : LineFrame s s.wake := by
  unfold State.wake
  split
  · exact LineFrame.of_ports rfl rfl rfl rfl rfl rfl rfl rfl (fun x => by cases x <;> rfl)
  · exact LineFrame.refl s

theorem advance_frame : LineFrame s s.advance :=
  LineFrame.of_ports rfl rfl rfl rfl rfl rfl rfl rfl (fun x => by cases x <;> rfl)

theorem blocksStep_frame (l : LineState) (z : Samples) : LineFrame s (s.blocksStep l z) :=
  ((((((retire_frame s).trans (expireGrant_frame _)).trans (useSamples_frame _ l z)).trans (abandonIfDue_frame _)).trans
    (stepHeads_frame _)).trans (stepFlip_frame _)).trans (stepGates_frame _)

/-- No encoder step changes a parameter, the sort plan, the snapshot, a cell level or an operand ring. -/
theorem encoder_frame (z : Samples) : LineFrame s (s.encoder z) :=
  (((advance_frame s).trans (missingCheck_frame _)).trans (wake_frame _)).trans (blocksStep_frame _ _ z)

/-! ### Time base and completions -/

theorem expireStall_frame : LineFrame s s.expireStall := by
  unfold State.expireStall
  split
  · refine LineFrame.trans (((raise_frame s .feed .stall).trans (raise_frame _ .super .stall)).trans
      (bump_frame _ .stalls)) ?_
    exact LineFrame.of_ports rfl rfl rfl rfl rfl rfl rfl rfl (fun x => by cases x <;> rfl)
  · exact LineFrame.refl s

theorem countStall_frame : LineFrame s s.countStall := by
  unfold State.countStall
  split
  · exact LineFrame.of_ports rfl rfl rfl rfl rfl rfl rfl rfl (fun x => by cases x <;> rfl)
  · exact LineFrame.refl s

theorem countInterval_frame : LineFrame s s.countInterval := by
  unfold State.countInterval
  split
  · exact LineFrame.of_ports rfl rfl rfl rfl rfl rfl rfl rfl (fun x => by cases x <;> rfl)
  · exact LineFrame.refl s

theorem endInterval_frame : LineFrame s s.endInterval := by
  unfold State.endInterval
  split
  · exact LineFrame.of_ports rfl rfl rfl rfl rfl rfl rfl rfl (fun x => by cases x <;> rfl)
  · exact LineFrame.refl s

theorem timeBase_frame : LineFrame s s.timeBase :=
  (((countStall_frame s).trans (expireStall_frame _)).trans (countInterval_frame _)).trans (endInterval_frame _)

theorem stallExpiry_frame : LineFrame s s.stallExpiry := by
  unfold State.stallExpiry
  split
  · exact timeBase_frame s
  · exact LineFrame.refl s

theorem intervalExpiry_frame : LineFrame s s.intervalExpiry := by
  unfold State.intervalExpiry
  split
  · exact timeBase_frame s
  · exact LineFrame.refl s

theorem finishDrain_frame : LineFrame s s.finishDrain := by
  unfold State.finishDrain
  split
  · have h : LineFrame s { s with line := .idle, stallTimer := stoppedTimer } :=
      LineFrame.of_ports rfl rfl rfl rfl rfl rfl rfl rfl (fun x => by cases x <;> rfl)
    unfold State.endDrain
    split
    · exact h.trans (completeFlight_frame _ _ _)
    · exact h
  · exact LineFrame.refl s

theorem finishSwap_frame : LineFrame s s.finishSwap := by
  unfold State.finishSwap
  split
  · split
    · exact (setBin_frame s _ _).trans (completeFlight_frame _ _ _)
    · exact LineFrame.refl s
  · exact LineFrame.refl s

theorem finishWait_frame : LineFrame s s.finishWait := by
  unfold State.finishWait
  split
  · split
    · split
      · exact LineFrame.refl s
      · exact setFlight_frame s _ _
    · exact LineFrame.refl s
  · exact LineFrame.refl s

theorem completions_frame : LineFrame s s.completions :=
  ((finishDrain_frame s).trans (finishSwap_frame _)).trans (finishWait_frame _)

theorem judgeGrant_frame : LineFrame s s.judgeGrant := by
  unfold State.judgeGrant
  split
  · split
    · refine LineFrame.trans ?_ (completeFlight_frame _ _ _)
      exact LineFrame.of_ports rfl rfl rfl rfl rfl rfl rfl rfl (fun x => by cases x <;> rfl)
    · exact LineFrame.refl s
  · exact LineFrame.refl s

theorem closeHeld_frame (r : Record) : LineFrame s (s.closeHeld r) := by
  unfold State.closeHeld
  split
  · split
    · exact closeFlip_frame s _ _
    · exact LineFrame.refl s
  · exact LineFrame.refl s

end

theorem foldl_closeHeld_frame (l : List Record) (s : State) : LineFrame s (l.foldl State.closeHeld s) := by
  induction l generalizing s with
  | nil => exact LineFrame.refl s
  | cons r l ih => exact (closeHeld_frame s r).trans (ih _)

theorem emptyTrack_frame (s : State) : LineFrame s s.emptyTrack := by
  unfold State.emptyTrack
  refine LineFrame.trans ?_ (afterRemoval_frame _)
  exact LineFrame.of_ports rfl rfl rfl rfl rfl rfl rfl rfl (fun x => by cases x <;> rfl)

theorem purgeTrack_frame (s : State) : LineFrame s s.purgeTrack :=
  ((foldl_closeHeld_frame s.track s).trans (bumpBy_frame _ _ _)).trans (emptyTrack_frame _)

end Sys2Proof.Machine
end

