-- ==== Sys2Proof/Laws/Ports.lean ====
section
/-! SUPPORT. Laws/Ports.lean: the command byte read back (R161), the operand ring's length (R160), the three things an
access can do (R159, R161), and the frames of the steps a port takes inside its own operation. -/

namespace Sys2Proof.Machine

/-! ### The command byte -/

theorem cmdOfByte_cmdByte (c : Cmd) (call : Bool) : cmdOfByte (cmdByte c call) = some c := by
  cases c <;> cases call <;> decide

theorem callOfByte_cmdByte (c : Cmd) (call : Bool) : callOfByte (cmdByte c call) = call := by
  cases c <;> cases call <;> decide

/-! ### The operand ring -/

theorem ringPush_length (b : Byte) (ring : List Byte) (h : ring ≠ []) : (ringPush b ring).length = ring.length := by
  unfold ringPush
  have : 0 < ring.length := List.length_pos_iff.mpr h
  simp; omega

theorem ringRotate_length (ring : List Byte) : (ringRotate ring).length = ring.length := by
  cases ring <;> simp [ringRotate]

theorem ringTake_length (ring : List Byte) : (ringTake ring).length = ring.length := by
  cases ring <;> simp [ringTake]

theorem ringPushAll_length (bs ring : List Byte) (h : ring ≠ []) : (ringPushAll bs ring).length = ring.length := by
  induction bs with
  | nil => rfl
  | cons b bs ih =>
    have e : ringPushAll (b :: bs) ring = ringPush b (ringPushAll bs ring) := rfl
    rw [e, ringPush_length, ih]
    intro n
    rw [n] at ih
    exact h (List.length_eq_zero_iff.mp ih.symm)

/-! ### Accesses -/

/-- While an access is held, no other is made (R159). -/
theorem access_held (s : State) (x : PortId) (a b : Access) (h : (s.port x).held = some b) : s.access x a = s := by
  unfold State.access; rw [h]

/-- An access the port takes (R161). -/
theorem access_taken (s : State) (x : PortId) (a : Access) (h : (s.port x).held = none) (k : (s.port x).takes a = true) :
    s.access x a = s.takeAccess x a := by
  unfold State.access; rw [h]; simp [k]

/-- An access the port holds (R161). -/
theorem access_waits (s : State) (x : PortId) (a : Access) (h : (s.port x).held = none)
    (k : (s.port x).takes a = false) : s.access x a = s.setPort x { s.port x with held := some a } := by
  unfold State.access; rw [h]; simp [k]

/-- A port without a command in flight takes every access (R161). -/
theorem takes_of_idle (p : Port) (a : Access) (h : p.inFlight = none) : p.takes a = true := by
  cases a <;> simp [Port.takes, Port.busy, h]

/-- A port without a command in flight has no block phase. -/
theorem block_of_idle (p : Port) (h : p.inFlight = none) : p.block = false := by
  simp [Port.block, h]

/-- A command written at a port that takes it and lists it runs on the state with xDONE cleared (R161, R163). -/
theorem command_run (s : State) (c : Cmd) (x : PortId) (call : Bool) (free : (s.port x).inFlight = none)
    (quiet : (s.port x).held = none) (listed : allowedAt c x = true) :
    s.command c x call = .next (runCmd c x call (s.setPort x { s.port x with xdone := false })).settle := by
  unfold State.command State.event
  dsimp only
  rw [access_taken s x _ quiet (takes_of_idle _ _ free)]
  simp [State.takeAccess, State.takeCommand, cmdOfByte_cmdByte, callOfByte_cmdByte, listed]

/-! ### Frames of a port's steps -/

/-- One completion, held access or grant after another: `settle` runs the completions, the held accesses, the grant and
the accesses held behind it, in that order (notes/assumptions/9.md). -/
theorem settle_eq (s : State) : s.settle = s.completions.takeAllHeld.judgeGrant.takeAllHeld := rfl

/-- Without an access the port would take, nothing held is taken. -/
theorem takeOneHeld_of_none (s : State) (h : ∀ x, (s.port x).ready = false) : s.takeOneHeld = s := by
  have e : s.readyPorts = [] := by simp [State.readyPorts, h]
  unfold State.takeOneHeld; rw [e]

theorem takeAllHeld_of_none (s : State) (h : ∀ x, (s.port x).ready = false) : s.takeAllHeld = s := by
  unfold State.takeAllHeld; rw [takeOneHeld_of_none s h, takeOneHeld_of_none s h, takeOneHeld_of_none s h]

/-- A port that holds no access has none to take. -/
theorem ready_of_quiet (p : Port) (h : p.held = none) : p.ready = false := by simp [Port.ready, h]

/-- Without held accesses, an event is followed by its completions and the grant alone. -/
theorem settle_of_quiet (s : State) (h : ∀ x, (s.port x).held = none) : s.settle = s.completions.judgeGrant := by
  have c : ∀ x, (s.completions.port x).held = none := fun x => ((completions_frame s).ports x).held.trans (h x)
  have g : ∀ x, (s.completions.judgeGrant.port x).held = none :=
    fun x => ((judgeGrant_frame s.completions).ports x).held.trans (c x)
  rw [settle_eq, takeAllHeld_of_none _ fun x => ready_of_quiet _ (c x),
    takeAllHeld_of_none _ fun x => ready_of_quiet _ (g x)]

/-- Without held accesses, what follows an event keeps what the transport blocks keep. -/
theorem settle_frame (s : State) (h : ∀ x, (s.port x).held = none) : LineFrame s s.settle := by
  rw [settle_of_quiet s h]
  exact (completions_frame s).trans (judgeGrant_frame _)

end Sys2Proof.Machine
end

