-- ==== Sys2Proof/Safety.lean ====
section
/-! DEFINITION. Safety.lean: a safe run. -/

namespace Sys2Proof

/-- A state is safe for `k` steps: no step faults or is refused. -/
def SafeFor (s : Machine.State) : Nat → Prop
  | 0 => True
  | k + 1 => ∃ t, Machine.step s = .next t ∧ SafeFor t k

end Sys2Proof
end

