-- ==== Sys2Proof/WellFormed.lean ====
section
/-! DEFINITION. WellFormed.lean: the commands whose operands name what their row describes. -/

namespace Sys2Proof

/-- An access a port can be found to hold: not a status read and not ABORT, which are always taken (R161). -/
def Access.holdable : Access → Bool
  | .statusRead => false
  | .commandWrite b => Machine.cmdOfByte b != some .abort
  | .dataWrite _ => true
  | .dataRead => true

/-- A well-formed command: an UNKNOWN_COMMAND's code is in no table (R161), a BLOCK_DATA_READ is at the Supervisor port,
whose commands have the read blocks (R162, 11.8), and an ACCESS_HELD can be held (R161). The others admit every
operand: a command written at a port that does not list it is refused NOT PERMITTED (R161). -/
def Instr.wellFormed : Instr → Bool
  | .unknownCommand _ b => Machine.cmdOfByte b == none
  | .blockDataRead x _ => x == .super
  | .accessHeld _ a => a.holdable
  | _ => true

end Sys2Proof
end

