-- ==== Sys2Proof/Tests/Slice0.lean ====
section
/-! SUPPORT. Tests/Slice0.lean: WellFormed's checks refuse what they should; values the spec states; and for each obligation
with hypotheses, states and operands that meet them, clause by clause (test_witness_<obligation>). -/

open Sys2Proof
open Sys2Proof.Machine
open Sys2Proof.Claims

namespace Sys2Proof.Tests

/-! ### States -/

/-- Port `x` with these bytes on top of its ring. -/
def ringed (x : PortId) (bytes : List Byte) (s : State) : State :=
  s.setPort x { s.port x with ring := bytes ++ List.replicate (24 - bytes.length) 0 }

/-- Port `x` with a command in flight. -/
def busyWith (x : PortId) (k : Flight) (s : State) : State :=
  s.setPort x { s.port x with inFlight := some { kind := k, call := true } }

/-- The machine after reset in another line state. -/
def inLine (l : LineState) : State := { State.reset with line := l }

/-- A record. -/
def rec1 (t : Tag) (st : Stage) (next : Option Cell) (anchor : Pos) : Record :=
  { tag := t, stage := st, next := next, anchor := anchor }

/-- RUNNING with one record at a position. -/
def withRecord (r : Record) (p : Pos) : State :=
  { State.reset with line := .running, track := [r], nextTag := r.tag + 1, pos := p }

/-- A cell BLOCKED. -/
def blocked (x : Cell) (s : State) : State := s.setLevel x .blocked

/-- The state an outcome answers passes a test. -/
def answers (o : Result) (p : State → Bool) : Bool :=
  match o with
  | .next t => p t
  | _ => false

/-- Outside DRAINING, with no command in flight at the Print and Supervisor ports, no completion is due. -/
theorem none_complete (s : State) (print : s.flight .print = none) (super : s.flight .super = none)
    (line : s.line ≠ .draining) : NoneComplete s where
  drain h := line h.1
  swap b h := by rw [super] at h; cases h
  load l h := by rw [print] at h; cases h

/-- Without held accesses, flights and a waiting RELEASE nothing is due, but for a DRAIN. -/
theorem settled_of_calm (s : State) (held : ∀ x, (s.port x).held = none) (flight : ∀ x, s.flight x = none)
    (line : s.line ≠ .draining) (release : s.release ≠ .waiting) : Settled s where
  held x a h := by have e := h.1; rw [held x] at e; cases e
  ended := none_complete s (flight .print) (flight .super) line
  grant h := absurd h release

/-- A track without an outstanding grant. -/
theorem track_sound (s : State) (room : s.track.length ≤ 32) (distinct : (s.track.map fun r => r.tag).Nodup)
    (fresh : ∀ r ∈ s.track, r.tag ≠ s.nextTag) (release : s.release = .none) : TrackSound s where
  room := room
  distinct := distinct
  fresh := fresh
  granted g h := by rw [release] at h; cases h

/-! ### WellFormed -/

theorem test_ill_formed_unknown : Instr.wellFormed (.unknownCommand .feed 0x10) = false := by decide
theorem test_ill_formed_block_read : Instr.wellFormed (.blockDataRead .feed .read) = false := by decide
theorem test_ill_formed_held_status : Instr.wellFormed (.accessHeld .feed .statusRead) = false := by decide
theorem test_ill_formed_held_abort : Instr.wellFormed (.accessHeld .feed (.commandWrite 0xFF)) = false := by decide
theorem test_well_formed_unknown : Instr.wellFormed (.unknownCommand .feed 0x00) = true := by decide

/-! ### Values of the spec -/

/-- R55's examples: a delta of 120 gives 15, 7 gives 0, −1 gives −1, −55 gives −7. -/
theorem test_baseline_examples :
    trainedBaseline 40 10 = 55 ∧ trainedBaseline 9 1 = 9 ∧ trainedBaseline 17 1 = 16 ∧ trainedBaseline 71 1 = 64 := by
  decide

/-- R74's example: Lp 420, centre 209 LEADING, centre 210 TRAILING. -/
theorem test_end_example :
    Candidate.end_ ⟨209, 209, 0⟩ 420 = .leading ∧ Candidate.end_ ⟨210, 210, 0⟩ 420 = .trailing := by decide

/-- R78's table at its edge: 65535 against 32768 is too close, against 32767 not. -/
theorem test_too_close_edge :
    tooClose (.unusual, ⟨0, 0, 65535⟩) (.unusual, ⟨0, 0, 32768⟩) = true ∧
      tooClose (.unusual, ⟨0, 0, 65535⟩) (.unusual, ⟨0, 0, 32767⟩) = false := by decide

/-- R168: the defaults are consistent, and P_E at 5020 is not (P_G6 + 120 is 5020). -/
theorem test_geometry_edge :
    defaultGeometry.consistent = true ∧ (defaultGeometry.set .pE 5020).consistent = false ∧
      (defaultGeometry.set .pE 5021).consistent = true := by decide

/-- R1: the position wraps. -/
theorem test_position_wraps :
    answers (exec (.encoderStep (Vector.replicate 8 0)) { State.reset with pos := 65535 }) (fun t => t.pos == 0) = true := by
  decide

/-- R161, 11.8: RELEASE is 11h, with CALL 91h. -/
theorem test_release_byte : cmdByte .release false = 0x11 ∧ cmdByte .release true = 0x91 := by decide

/-- R158: READ LINE after power-on reads 0, 0, 0, 0, FFh, 0. -/
theorem test_read_line_reset :
    answers (exec (.readLine .super false) State.reset)
      (fun t => t.portS.ring.take 6 == [0, 0, 0, 0, 0xFF, 0] && t.portS.xdone) = true := by decide

/-- R169, 11.9: READ PARAMETER of P_R reads 400 as 01h 90h. -/
theorem test_read_parameter_default :
    answers (exec (.readParameter .super true) State.reset)
      (fun t => t.portS.ring.take 2 == [0x01, 0x90] && t.portS.xcall) = true := by decide

/-- R163: after power-on the status byte reads DONE with all four bits cleared. -/
theorem test_status_reset : answers (exec (.statusRead .print) State.reset) (fun t => t.portP.out == 0) = true := by decide

/-- R161: RELEASE at the Print port is NOT PERMITTED (4). -/
theorem test_not_permitted :
    answers (exec (.release .print false) State.reset) (fun t => t.portP.code == .notPermitted) = true := by decide

/-- R10, R148: a lead edge at T with no record jams RUNNING with cause STRAY and cell T. -/
theorem test_stray_jams :
    answers (exec (.leadEdge .t) (inLine .running))
      (fun t => t.line == .jammed && t.jamCause == .stray && t.jamCell == some .t && t.live[3] == 1 && t.live[21] == 1) =
      true := by decide

/-- R96, R93: dot 0 of a column goes to bus line 15 on the LOW head. -/
theorem test_low_head_reverses :
    headDots .low ⟨0, true, false, 0, 0, 2, 0, 0, 0, 0⟩ ⟨(Vector.replicate 128 0).set 1 0x0001, 2⟩ 0 = 0x8000 := by decide

/-- R15: a stall limit lowered below the count takes effect at the next expiry, which counts its millisecond first. -/
theorem test_lowered_stall_limit :
    answers
      (exec .stall
        { withRecord (rec1 7 .toRead (some .r) 0) 300 with
          params := { State.reset.params with stallLimit := 100 }, stallTimer := { count := 500, dormant := false } })
      (fun t => t.stallTimer == { count := 501, dormant := true } && t.live[30] == 1) = true := by decide

/-- R86: a last reservation not yet begun that a re-anchor by -63 moves whole to before the position (P_F 2340, P_T 2400,
FlipSetup and FlipHold 0, Lp 30) is retired within the edge event. -/
theorem test_unbegun_reservation_retired :
    answers
      (exec (.leadEdge .t)
        { withRecord
            { rec1 7 .planned (some .t) 0 with
              lp := some 30, bin := some .endTray
              gate := some { setting := .straight, win := { fromPos := 2340, toPos := some 2370 } } } 2337 with
          params := { State.reset.params with
            geo := { State.reset.params.geo with pF := 2340, flipSetup := 0, flipHold := 0, tol := 64 } }
          lastRes := some { holder := 7, setting := .straight, win := { fromPos := 2340, toPos := some 2370 } } })
      (fun t => t.lastRes == none && t.live[22] == 1) = true := by decide

/-- R29, R49: the arrival that removes the last record in DRAINING makes the line IDLE and completes the DRAIN. -/
theorem test_last_arrival_ends_drain :
    let q := { rec1 7 .planned (some .e) 0 with bin := some .endTray }
    answers (exec (.leadEdge .e) (busyWith .feed .drain { withRecord q 5400 with line := .draining }))
      (fun t => t.line == .idle && t.portF.inFlight == none && t.portF.code == .done && t.portF.xcall) = true := by decide

/-- R130: the arrival that brings a SWAPPING bin's bound to 0 makes it WITHHELD and completes the SWAP TRAY. -/
theorem test_last_bound_arrival_ends_swap :
    let r := { rec1 7 .planned (some (.b 0)) 0 with bin := some (.tray 0) }
    answers (exec (.leadEdge (.b 0))
        (busyWith .super (.swapTray (.tray 0)) ((withRecord r 3520).setBin (.tray 0) ⟨.swapping, 9, 1, 500⟩)))
      (fun t => (t.bin (.tray 0)).state == .withheld && t.portS.inFlight == none && t.line == .running) = true := by
  decide

/-- R43, R49: the step that passes the arrival window in DRAINING, with the track empty, ends the DRAIN. -/
theorem test_feed_miss_ends_drain :
    answers (exec (.encoderStep (Vector.replicate 8 0))
        (busyWith .feed .drain { inLine .draining with release := .granted 0, pos := 400 }))
      (fun t => t.line == .idle && t.release == .none && t.portF.code == .done && t.live[4] == 1) = true := by decide

/-- A LOAD MARK that waits for bank 0 of slot 0. -/
def waitingLoad : Flight := .loadMark { slot := 0, bank := 0, count := 1, clamped := false, phase := .wait }

/-- R117, R161: a data write held in the reference wait is taken at the step that frees the bank, as the first byte of the
block, and its port holds none then. -/
theorem test_held_write_taken_at_wait_end :
    let a : Reservation := ⟨7, true, false, 0, 0, 2, 0, 9, 10, 51⟩
    let s := busyWith .print waitingLoad
      { State.reset with
        pos := 50, headHigh := { state := .recovering, active := some a, pending := none, latch := 0, strobe := false } }
    answers (exec (.encoderStep (Vector.replicate 8 0)) (s.setPort .print { s.portP with held := some (.dataWrite 5) }))
      (fun t => t.portP.held == none && t.headHigh.active == none &&
        t.portP.inFlight == some { kind := .loadMark ⟨0, 0, 1, false, .block 1 0 (some 5)⟩, call := true }) = true := by
  decide

/-! ### Witnesses: steps, events, accesses -/

theorem test_witness_step : State.reset.pending = [] := rfl

/-- RUNNING, trained, with a RELEASE waiting, and the gap counter at FeedLead. -/
def permitted : State :=
  busyWith .feed .release
    { inLine .running with release := .waiting, training := Vector.replicate 8 64, gap := 40 }

/-- A port that holds an access it would take. -/
def holding (x : PortId) (s : State) : State := s.setPort x { s.port x with held := some .dataRead }

/-- Nothing due; one held access due, and two; a RELEASE that waits at an open permit. -/
theorem test_witness_events :
    ((∃ t, exec .stall State.reset = .next t) ∧ Settled State.reset) ∧
      (NoneComplete (holding .feed State.reset) ∧ HeldDue (holding .feed State.reset) .feed .dataRead ∧
        ∀ y b, HeldDue (holding .feed State.reset) y b → y = .feed) ∧
      (NoneComplete (holding .print (holding .feed State.reset)) ∧
        HeldDue (holding .print (holding .feed State.reset)) .feed .dataRead ∧
        HeldDue (holding .print (holding .feed State.reset)) .print .dataRead) ∧
      NoneComplete permitted ∧ (∀ x a, ¬ HeldDue permitted x a) ∧ permitted.release = .waiting ∧ PermitOpen permitted :=
  ⟨⟨⟨_, rfl⟩, settled_of_calm _ (by intro x; cases x <;> rfl) (by intro x; cases x <;> rfl) (by decide) (by decide)⟩,
    ⟨none_complete _ rfl rfl (by decide), ⟨rfl, .inl rfl⟩, (by intro y b h; cases y <;> first | rfl | cases h.1)⟩,
    ⟨none_complete _ rfl rfl (by decide), ⟨rfl, .inl rfl⟩, ⟨rfl, .inl rfl⟩⟩, none_complete _ rfl rfl (by decide),
    (by intro x a h; cases x <;> cases h.1), rfl, by decide⟩

theorem test_witness_command_bytes :
    ((0x02, Cmd.ackNotice) ∈ codeTable ∧ (0x7F, Cmd.abort) ∈ codeTable) ∧
      (Ready State.reset .feed ∧ (∀ code c, (code, c) ∈ codeTable → (0x00 : Byte).toNat % 128 ≠ code) ∧
        ∀ code c, (code, c) ∈ codeTable → (0xFE : Byte).toNat % 128 ≠ code) ∧
      Ready State.reset .print ∧ PortId.print ∉ listed .start ∧ PortId.feed ∉ listed .setParameter := by
  have a : ∀ p ∈ codeTable, (0x00 : Byte).toNat % 128 ≠ p.1 := by decide
  have b : ∀ p ∈ codeTable, (0xFE : Byte).toNat % 128 ≠ p.1 := by decide
  exact ⟨by decide, ⟨by decide, fun k c h => a (k, c) h, fun k c h => b (k, c) h⟩, by decide⟩

theorem test_witness_busy :
    let s := busyWith .feed .drain (inLine .draining)
    (s.port .feed).inFlight ≠ none ∧ (s.port .feed).held = none ∧ (0x10, Cmd.start) ∈ codeTable ∧ Cmd.start ≠ .abort ∧
      (0xFE : Byte).toNat % 128 ≠ 0x7F ∧ inBlock (s.port .feed) = false := by decide

theorem test_witness_ring :
    Ready State.reset .super ∧ (State.reset.port .super).ring = 0 :: List.replicate 23 0 := by decide

theorem test_witness_status : (State.reset.port .feed).held = none := rfl

theorem test_witness_abort :
    State.reset.flight .feed = none ∧
      (let s := busyWith .feed .release { inLine .running with release := .waiting }
       s.flight .feed = some .release ∧ s.release = .waiting ∧ (s.port .feed).held = none) ∧
      (let s := busyWith .feed .release { inLine .running with release := .granted 0 }
       s.flight .feed = some .release ∧ s.release ≠ .waiting) ∧
      (let s := busyWith .super (.readBytes [1]) State.reset
       s.flight .super = some (.readBytes [1]) ∧ Flight.readBytes [1] ≠ .release) ∧
      (∀ b, Flight.readBytes [1] ≠ .swapTray b) ∧
      (let s := busyWith .super (.swapTray (.tray 0)) (State.reset.setBin (.tray 0) ⟨.swapping, 499, 1, 500⟩)
       s.flight .super = some (.swapTray (.tray 0)) ∧ (s.bin (.tray 0)).count < (s.bin (.tray 0)).capacity) ∧
      (let s := busyWith .super (.swapTray .endTray) (State.reset.setBin .endTray ⟨.swapping, 1000, 1, 1000⟩)
       s.flight .super = some (.swapTray .endTray) ∧ (s.bin .endTray).capacity ≤ (s.bin .endTray).count) :=
  ⟨rfl, by decide, by decide, by decide, (by intro b h; cases h), by decide, by decide⟩

theorem test_witness_notices :
    Ready State.reset .print ∧ (State.reset.port .print).ring = 0 :: List.replicate 23 0 := by decide

theorem test_witness_counter :
    (let s := { State.reset with live := Vector.replicate 32 4294967294 }
     s.tally .jams < 4294967295 ∧ 4294967295 ≤ s.tally .jams + 1) ∧
      (let s := { State.reset with live := Vector.replicate 32 4294967295 }
       4294967295 ≤ s.tally .jams) ∧
      (let s := { State.reset with live := Vector.replicate 32 4294967293 }
       s.tally .jams + 1 < 4294967295) ∧ Tally.jams ≠ .exited := by decide

/-! ### Witnesses: power-on, line reset, invariants -/

theorem test_witness_parameters : (0, ParamId.geo .pR, 1, 16000, 400) ∈ parameterTable := by
  simp [parameterTable]

theorem test_witness_line_reset :
    State.reset.resetLevel = false ∧ { State.reset with resetLevel := true }.resetLevel = true ∧
      Ready State.reset .super := by decide

/-- RUNNING with one record and a command in front: every invariant below is met, and the step answers. -/
def underWay : State :=
  { withRecord (rec1 7 .toRead (some .r) 0) 300 with
    live := (Vector.replicate 32 0).set 0 1, pending := [.stall] }

theorem test_witness_steps_answer : ∃ t, step underWay = .next t := ⟨_, rfl⟩

theorem test_witness_rings : RingsWhole underWay := by intro x; cases x <;> decide

theorem test_witness_track : TrackSound underWay := track_sound _ (by decide) (by decide) (by decide) rfl

theorem test_witness_heads : ∀ h, HeadSound (underWay.head h) := by
  intro h; cases h <;> exact ⟨by decide, by decide, by decide⟩

theorem test_witness_line : LineSound underWay where
  resting h := by revert h; decide
  jammed h := by cases h
  closed h := by cases h
  empty h := by cases h
  timer _ := rfl
  waiting h := by cases h
  asked h := by cases h
  drain h := by cases h
  listed x k h := by cases x <;> cases h

theorem places_in_range (g : Geometry)
    (h : ∀ row ∈ parameterTable, (match row with
      | (_, .geo i, lo, hi, _) => decide (lo ≤ geoValue g i ∧ geoValue g i ≤ hi)
      | _ => true) = true) :
    ∀ id i lo hi dflt, (id, ParamId.geo i, lo, hi, dflt) ∈ parameterTable → lo ≤ geoValue g i ∧ geoValue g i ≤ hi :=
  fun _ _ _ _ _ m => of_decide_eq_true (h _ m)

theorem test_witness_values : ParamsSound underWay.params ∧ CountsSound underWay :=
  ⟨⟨by unfold Consistent; decide, places_in_range _ (by decide), ⟨by decide, by decide, by decide, by decide, by decide⟩,
      ⟨by decide, by decide, by decide, by decide, by decide⟩, by decide, by decide⟩,
    ⟨by decide, by decide, by decide, by decide⟩⟩

theorem test_witness_books : BooksSound underWay :=
  ⟨test_witness_track, test_witness_line, ⟨by decide, by intro _ _; decide⟩⟩

/-- One place of tray 1 left, for the record on its way there. -/
def boundForTray : State :=
  { (withRecord { rec1 7 .planned (some (.b 0)) 0 with bin := some (.tray 0) } 3000).setBin (.tray 0)
      ⟨.available, 499, 1, 500⟩ with
    pending := [.leadEdge (.b 0)] }

theorem test_witness_bins : BinsSound boundForTray ∧ ∃ t, step boundForTray = .next t :=
  ⟨{ track := track_sound _ (by decide) (by decide) (by decide) rfl
     listed := by intro x k h; cases x <;> cases h
     bound := by intro b; cases b with | endTray => decide | tray k => revert k; decide
     expected := by
       intro r hr b hb
       have e : r = { rec1 7 .planned (some (.b 0)) 0 with bin := some (.tray 0) } := by
         simpa [boundForTray, State.setBin, withRecord] using hr
       subst e
       cases b with
       | endTray => cases hb
       | tray k => cases hb; rfl
     unread := by
       intro r hr hn
       have e : r = { rec1 7 .planned (some (.b 0)) 0 with bin := some (.tray 0) } := by
         simpa [boundForTray, State.setBin, withRecord] using hr
       subst e
       cases hn
     sampled := by intro d ch h; cases h
     jammed := by intro h; cases h
     capacity := by intro b; cases b with | endTray => decide | tray k => revert k; decide
     fits := by decide
     available := by intro b; cases b with | endTray => decide | tray k => revert k; decide
     full := by intro b; cases b with | endTray => decide | tray k => revert k; decide
     swapping := by
       intro b
       constructor
       · intro h; exfalso; revert h; cases b with | endTray => decide | tray k => revert k; decide
       · intro h; cases h
     withheld := by decide }, _, rfl⟩

/-! ### Witnesses: encoder steps -/

/-- RUNNING, R BLOCKED, a read SAMPLING of a READING record at a step count. -/
def reading (count : Nat) : State :=
  { blocked .r (withRecord (rec1 7 .reading (some .t) 0) 500) with
    rOcc := some 7
    read := .sampling
      { tag := 7, count := count
        latched := { tag := State.reset.params.detTag, meter := State.reset.params.detMeter, maxPiece := 600,
                     minPiece := 200 } }
      (Vector.replicate 8 { run := none, best := none, flooded := false }) }

/-- The same record with its read OVERRUN, planned with an open window. -/
def overrun : State :=
  { blocked .r (withRecord
      { rec1 7 .planned (some .t) 0 with gate := some { setting := .straight, win := { fromPos := 1740, toPos := none } } }
      1100) with
    rOcc := some 7
    read := .overrun
      { tag := 7, count := 601
        latched := { tag := State.reset.params.detTag, meter := State.reset.params.detMeter, maxPiece := 600,
                     minPiece := 200 } } }

/-- A last reservation of a holder with an open to. -/
def lastOf (t : Tag) : FlipReservation := { holder := t, setting := .straight, win := { fromPos := 1740, toPos := none } }

theorem reading_quiet (n : Nat) : ∀ q ∈ (reading n).track, ¬ MissingAt (reading n) ((reading n).pos + 1) q := by
  intro q hq
  have e : q = rec1 7 .reading (some .t) 0 := by simpa [reading, blocked, State.setLevel, withRecord] using hq
  subst e
  rintro ⟨x, hx, h⟩
  cases hx
  revert h
  show isAfter (500 + 1) (0 + BitVec.ofNat 16 2400 + BitVec.ofNat 16 20) = true → False
  decide

theorem reading_unabandoned : Unabandoned (reading 599) := by intro d ch h _ _; cases h; decide

/-- A step in JAMMED and in STANDBY; one below MaxPiece; one into a flip gate window; one past and one at the end of an
arrival window. -/
theorem test_witness_encoder :
    (NothingHeld (inLine .jammed) ∧ ¬ Moving (inLine .jammed) ∧ Unabandoned (inLine .jammed)) ∧
      (NothingHeld (inLine .standby) ∧ (inLine .standby).line = .standby) ∧
      (NothingHeld (reading 599) ∧ Moving (reading 599) ∧ NoneMissing (reading 599) ∧ Unabandoned (reading 599)) ∧
      (∀ st, ¬ Asks (rec1 7 .reading (some .t) 0) 501 st) ∧
      Asks { rec1 7 .planned none 0 with
        gate := some { setting := .turn, win := { fromPos := 501, toPos := some 501 } } } 501 .turn ∧
      isAfter (400 + 1) (0 + BitVec.ofNat 16 State.reset.params.geo.arrivalLimit) = true ∧
      isAfter (399 + 1) (0 + BitVec.ofNat 16 State.reset.params.geo.arrivalLimit) = false ∧
      ((blocked .r State.reset).line = .idle ∧ (blocked .r State.reset).cells[(1 : Fin 11)] = .blocked) ∧
      Misses { inLine .draining with release := .granted 0, pos := 400 } ∧ ¬ Misses (inLine .running) ∧
      Trains State.reset ∧ ¬ Trains (inLine .jammed) :=
  ⟨⟨by decide, by decide, by intro d ch h; cases h⟩, by decide,
    ⟨by decide, by decide, reading_quiet 599, reading_unabandoned⟩, (by rintro st ⟨h, -⟩; cases h),
    ⟨rfl, _, rfl, rfl, by decide⟩, by decide, by decide, by decide, ⟨.inr rfl, 0, rfl, by decide⟩,
    (by rintro ⟨-, g, h, -⟩; cases h), ⟨rfl, .inl rfl⟩, (by rintro ⟨-, h⟩; revert h; decide)⟩

theorem test_witness_training :
    (NothingHeld State.reset ∧ State.reset.cells[(1 : Fin 11)] = .clear ∧ State.reset.line = .idle) ∧
      (Moving (inLine .draining) ∧ NoneMissing (inLine .draining)) ∧
      (∀ i : Fin 8, { State.reset with training := Vector.replicate 8 63 }.training[i] = 63) ∧
      (∀ i : Fin 8, { State.reset with training := Vector.replicate 8 62 }.training[i] = 62) ∧
      ∀ i : Fin 8, { State.reset with training := Vector.replicate 8 64 }.training[i] = 64 :=
  ⟨by decide, ⟨by decide, fun _ h => by cases h⟩, by decide, by decide, by decide⟩

/-- One step past P_R + Tol. -/
theorem test_witness_missing :
    let r := rec1 7 .toRead (some .r) 0
    let s := withRecord r 420
    NothingHeld s ∧ Settled s ∧ Moving s ∧ s.track = [] ++ r :: [] ∧ r.next = some .r ∧ MissingAt s (s.pos + 1) r :=
  ⟨by decide, settled_of_calm _ (by intro x; cases x <;> rfl) (by intro x; cases x <;> rfl) (by decide) (by decide),
    by decide, rfl, rfl, ⟨.r, rfl, by decide⟩⟩

theorem test_witness_read_sample :
    NothingHeld (reading 599) ∧ Moving (reading 599) ∧ NoneMissing (reading 599) ∧
      (reading 599).cells[(1 : Fin 11)] = .blocked ∧
      (∃ r ch, (reading 599).read = .sampling r ch ∧ r.count < r.latched.maxPiece) ∧
      (∃ r, overrun.read = .overrun r ∧ overrun.cells[(1 : Fin 11)] = .blocked) ∧
      (blocked .r (inLine .running)).read = .idle :=
  ⟨by decide, by decide, reading_quiet 599, by decide, ⟨_, _, rfl, by decide⟩, ⟨_, rfl, by decide⟩, rfl⟩

/-- A jam finds the read at 600 steps and the mark being printed. -/
theorem test_witness_jam :
    (lengthAtJam (reading 600) (rec1 7 .reading (some .t) 0) = some 600) ∧
      (let s := { State.reset with
        headHigh := { state := .marking, latch := 5, strobe := true, pending := none
                      active := some ⟨7, true, false, 0, 0, 2, 0, 100, 101, 142⟩ } }
       markAtJam s (rec1 7 .planned (some .t) 0) = some .incomplete ∧ headsAt s .marking = 1 ∧
         headsAt s .recovering = 0) ∧
      (busyWith .print (.loadMark ⟨0, 0, 1, false, .wait⟩) (inLine .running)).portP.inFlight =
        some { kind := .loadMark ⟨0, 0, 1, false, .wait⟩, call := true } := by decide

/-! ### Witnesses: edges -/

theorem test_witness_idle_edges :
    (blocked .e (inLine .running)).level .e = .blocked ∧ (State.reset.level .e = .clear ∧ Resting State.reset) ∧
      ((inLine .jammed).level .i = .clear ∧ (inLine .jammed).line = .jammed) ∧
      ((blocked .i State.reset).level .i = .blocked ∧ ¬ Moving (blocked .i State.reset)) ∧
      ((blocked .t (inLine .running)).level .t = .blocked ∧ Cell.t ≠ .i ∧ Cell.t ≠ .r) ∧
      ((blocked .i (inLine .running)).level .i = .blocked ∧ (blocked .i (inLine .running)).iOcc = none) ∧
      (blocked .r (inLine .running)).level .r = .blocked ∧ (blocked .r (inLine .running)).rOcc = none := by decide

/-- Without a grant at I; at E with no record; at R one position before the window. -/
theorem test_witness_stray :
    let r := rec1 7 .toRead (some .r) 0
    let s := withRecord r 379
    (NothingHeld (inLine .running) ∧ Settled (inLine .running) ∧ Moving (inLine .running) ∧
      (inLine .running).level .i = .clear ∧ (inLine .running).release = .none) ∧
      (Cell.e ≠ .i ∧ ∀ q ∈ (inLine .running).track, q.next ≠ some .e) ∧
      NothingHeld s ∧ Settled s ∧ Moving s ∧ s.level .r = .clear ∧ s.track = [] ++ r :: [] ∧ r.next = some .r ∧
      atOrAfter s.pos (r.anchor + BitVec.ofNat 16 (cellPosition s.params.geo .r) - BitVec.ofNat 16 s.params.geo.tol) =
        false :=
  ⟨⟨by decide, settled_of_calm _ (by intro x; cases x <;> rfl) (by intro x; cases x <;> rfl) (by decide) (by decide),
      by decide, by decide, rfl⟩, ⟨by decide, fun _ h => by cases h⟩, by decide,
    settled_of_calm _ (by intro x; cases x <;> rfl) (by intro x; cases x <;> rfl) (by decide) (by decide), by decide,
    by decide, rfl, rfl, by decide⟩

/-- At both ends of the arrival window. -/
theorem test_witness_letter :
    let s := { inLine .running with release := .granted 65300, pos := 164 }
    let u := { inLine .running with release := .granted 164, pos := 164 }
    (Moving s ∧ s.level .i = .clear ∧ s.release = .granted 65300 ∧ TrackSound s ∧
      s.params.geo.arrivalLimit ≤ 4000 ∧ distance 65300 s.pos ≤ s.params.geo.arrivalLimit) ∧
      Moving u ∧ u.release = .granted 164 ∧ distance 164 u.pos = 0 :=
  ⟨⟨by decide, by decide, rfl, ⟨by decide, by decide, (by intro r h; cases h), by intro _ _; decide⟩, by decide,
      by decide⟩, by decide⟩

/-- At the first position of the window. -/
theorem test_witness_matched_r :
    let r := rec1 7 .toRead (some .r) 0
    let s := withRecord r 380
    NothingHeld s ∧ Moving s ∧ s.level .r = .clear ∧ TrackSound s ∧ s.track = [] ++ r :: [] ∧ r.next = some .r ∧
      atOrAfter s.pos (r.anchor + BitVec.ofNat 16 s.params.geo.pR - BitVec.ofNat 16 s.params.geo.tol) = true ∧
      r.gate = none ∧ r.bin = none ∧ r.mark = none :=
  ⟨by decide, by decide, by decide, track_sound _ (by decide) (by decide) (by decide) rfl, rfl, rfl, by decide, rfl, rfl,
    rfl⟩

/-- At T with the anchor standing, and at C with a correction. -/
theorem test_witness_matched_tc :
    let r := { rec1 7 .planned (some .t) 0 with bin := some .endTray }
    let s := withRecord r 2400
    let q := { rec1 7 .planned (some .c) 0 with bin := some (.tray 5) }
    let u := withRecord q 2780
    (NothingHeld s ∧ Settled s ∧ Moving s ∧ s.level .t = .clear ∧ TrackSound s ∧ s.track = [] ++ r :: [] ∧
      r.next = some .t ∧ r.bin = some .endTray ∧
      atOrAfter s.pos (r.anchor + BitVec.ofNat 16 (cellPosition s.params.geo .t) - BitVec.ofNat 16 s.params.geo.tol) =
        true ∧ s.pos - BitVec.ofNat 16 (cellPosition s.params.geo .t) = r.anchor) ∧
      NothingHeld u ∧ Settled u ∧ TrackSound u ∧
      atOrAfter u.pos (q.anchor + BitVec.ofNat 16 (cellPosition u.params.geo .c) - BitVec.ofNat 16 u.params.geo.tol) =
        true ∧ u.pos - BitVec.ofNat 16 (cellPosition u.params.geo .c) ≠ q.anchor :=
  ⟨⟨by decide,
      settled_of_calm _ (by intro x; cases x <;> rfl) (by intro x; cases x <;> rfl) (by decide) (by decide), by decide,
      by decide, track_sound _ (by decide) (by decide) (by decide) rfl, rfl, rfl, rfl, by decide, by decide⟩, by decide,
    settled_of_calm _ (by intro x; cases x <;> rfl) (by intro x; cases x <;> rfl) (by decide) (by decide),
    track_sound _ (by decide) (by decide) (by decide) rfl, by decide, by decide⟩

/-- Re-anchors: a window not begun, one begun and held by the last reservation, one passed; a rival in its way; the tray
gate; a mark whose Pending begins exactly at the moved free position, and one position before it. -/
theorem test_witness_re_anchor :
    let w : Window := { fromPos := 100, toPos := some 200 }
    (begun w 99 = false ∧ begun w 100 = true ∧ passed w 200 = false ∧ passed w 201 = true) ∧
      (isAfter 205 200 = true ∧ atOrAfter (200 + 5) (205 : Pos) = true ∧ atOrAfter (200 + 4) (205 : Pos) = false) ∧
      (lastOf 7).holder = 7 ∧ (rec1 7 .planned (some .t) 0).gate = none ∧
      Rival { State.reset with track := [{ rec1 8 .planned none 0 with gate := some ⟨.turn, w⟩ }] } 7 .straight w ∧
      (let a : Reservation := ⟨7, true, false, 0, 0, 2, 0, 100, 101, 142⟩
       MadeBy a 7 ∧ ¬ MadeBy a 8 ∧ isBefore 152 (a.free + 10) = false ∧ isBefore 152 (a.free + 11) = true) :=
  ⟨by decide, by decide, rfl, rfl, ⟨_, List.mem_singleton_self _, rfl, by decide, _, rfl, by decide, rfl⟩,
    ⟨rfl, rfl⟩, (by rintro ⟨-, h⟩; revert h; decide), by decide, by decide⟩

/-- The last free place of bin 1, and of bin 0, which is then FULL. (The ends of a DRAIN and of a SWAP TRAY:
test_last_arrival_ends_drain, test_last_bound_arrival_ends_swap.) -/
theorem test_witness_arrival :
    let r := { rec1 7 .planned (some (.b 0)) 0 with bin := some (.tray 0) }
    let s := (withRecord r 3520).setBin (.tray 0) ⟨.available, 499, 1, 500⟩
    let q := { rec1 7 .planned (some .e) 0 with bin := some .endTray }
    let u := (withRecord q 5400).setBin .endTray ⟨.available, 999, 1, 1000⟩
    (NothingHeld s ∧ Moving s ∧ s.level (.b 0) = .clear ∧ TrackSound s ∧ s.track = [] ++ r :: [] ∧ r.next = some (.b 0) ∧
      atOrAfter s.pos (r.anchor + BitVec.ofNat 16 (cellPosition s.params.geo (.b 0)) -
        BitVec.ofNat 16 s.params.geo.tol) = true ∧ (s.bin (.tray 0)).state = .available) ∧
      NothingHeld u ∧ Moving u ∧ u.level .e = .clear ∧ TrackSound u ∧ u.track = [] ++ q :: [] ∧
      atOrAfter u.pos (q.anchor + BitVec.ofNat 16 (cellPosition u.params.geo .e) - BitVec.ofNat 16 u.params.geo.tol) =
        true ∧ (u.bin .endTray).state = .available ∧ (u.bin .endTray).capacity ≤ (u.bin .endTray).count + 1 :=
  ⟨⟨by decide, by decide, by decide, track_sound _ (by decide) (by decide) (by decide) rfl, rfl, rfl, by decide,
      by decide⟩, by decide, by decide, by decide, track_sound _ (by decide) (by decide) (by decide) rfl, rfl, by decide,
    by decide, by decide⟩

/-- Arrivals: a tray gate that lists the record's window, closed or, of an OVERRUN read, open; one that does not; a mark
finished, one printed and one not begun. -/
theorem test_witness_departure :
    let g : TrayGate := { isOpen := true, windows := [⟨7, { fromPos := 3350, toPos := some 3850 }⟩], hold := none }
    let a : Reservation := ⟨7, true, false, 0, 0, 2, 0, 100, 101, 142⟩
    (g.windows = [] ++ ⟨7, { fromPos := 3350, toPos := some 3850 }⟩ :: [] ∧
        ∀ v ∈ ([] ++ [] : List GateWindow), v.holder ≠ 7) ∧
      (∀ w ∈ State.reset.gates[(0 : Fin 6)].windows, w.holder ≠ 7) ∧
      (∃ d, overrun.read = .overrun d ∧ d.tag = 7) ∧ MadeBy a 7 ∧
      HeadState.recovering ≠ .marking ∧ HeadState.free ≠ .recovering ∧ ¬ MadeBy { a with linked := false } 7 :=
  ⟨⟨rfl, by decide⟩, by decide, ⟨_, rfl, rfl⟩, ⟨rfl, rfl⟩, by decide, by decide, (by rintro ⟨h, -⟩; cases h)⟩

theorem test_witness_trail_i :
    let s := { blocked .i (withRecord (rec1 7 .inducting (some .r) 0) 300) with iOcc := some 7 }
    Moving s ∧ s.level .i = .blocked ∧ s.iOcc = some 7 := by decide

theorem test_witness_trail_r :
    let s := reading 600
    NothingHeld s ∧ Moving s ∧ s.level .r = .blocked ∧ TrackSound s ∧
      s.track = [] ++ rec1 7 .reading (some .t) 0 :: [] ∧ s.rOcc = some 7 ∧
      ∃ d ch, s.read = .sampling d ch ∧ d.tag = 7 :=
  ⟨by decide, by decide, by decide, track_sound _ (by decide) (by decide) (by decide) rfl, rfl, rfl, _, _, rfl, rfl⟩

/-- A mark wanted, and the three ways in which none is; a bin one letter short of its capacity, and one at it. -/
theorem test_witness_plan :
    let e : SortEntry := { primary := .tray 0, alternate := .tray 1, cancel := true, slot := 0 }
    Wanted .stampedUp false e ∧ ¬ Wanted .unfaced false e ∧ ¬ Wanted .stampedUp true e ∧
      ¬ Wanted .meteredInv false { e with cancel := false } ∧ Fits ⟨.available, 498, 1, 500⟩ ∧
      ¬ Fits ⟨.available, 499, 1, 500⟩ ∧ ¬ Fits ⟨.swapping, 0, 1, 500⟩ := by
  unfold Wanted Fits; decide

theorem test_witness_overrun :
    let s := overrun
    (NothingHeld s ∧ Moving s ∧ s.level .r = .blocked ∧ TrackSound s ∧ s.rOcc = some 7 ∧
      (∃ r d g, s.track = [] ++ r :: [] ∧ s.read = .overrun d ∧ d.tag = r.tag ∧ r.gate = some g ∧ g.win.toPos = none)) ∧
      ((lastOf 7).holder = 7 ∧ (lastOf 7).win.toPos = none) ∧ (lastOf 8).holder ≠ 7 ∧
      { lastOf 7 with win := { fromPos := 1740, toPos := some 1900 } }.win.toPos ≠ none :=
  ⟨⟨by decide, by decide, by decide, track_sound _ (by decide) (by decide) (by decide) rfl, rfl,
      _, _, _, rfl, rfl, rfl, rfl, rfl⟩, by decide, by decide, by decide⟩

/-- A step count at MaxPiece, which the next step takes above it, and one that stands above it. -/
theorem test_witness_abandonment :
    (NothingHeld (reading 600) ∧ Moving (reading 600) ∧ (reading 600).level .r = .blocked ∧ TrackSound (reading 600) ∧
        (reading 600).track = [] ++ rec1 7 .reading (some .t) 0 :: [] ∧ NoneMissing (reading 600) ∧
        (∀ h, ((reading 600).head h).active = none) ∧
        ∃ d ch, (reading 600).read = .sampling d ch ∧ d.tag = 7 ∧ d.latched.maxPiece ≤ d.count) ∧
      NothingHeld (reading 601) ∧ Moving (reading 601) ∧ (reading 601).level .r = .blocked ∧ TrackSound (reading 601) ∧
      ∃ d ch, (reading 601).read = .sampling d ch ∧ d.tag = 7 ∧ d.latched.maxPiece < d.count :=
  ⟨⟨by decide, by decide, by decide, track_sound _ (by decide) (by decide) (by decide) rfl, rfl, reading_quiet 600,
      (by intro h; cases h <;> rfl), _, _, rfl, rfl, by decide⟩,
    by decide, by decide, by decide, track_sound _ (by decide) (by decide) (by decide) rfl, _, _, rfl, rfl, by decide⟩

/-! ### Witnesses: reader and planner -/

/-- A TAG channel's parameters: T 24, Lmin 30, Lmax 110, Smin 1500, G 3. -/
theorem test_witness_runs :
    let p : Detector := { t := 24, lmin := 30, lmax := 110, smin := 1500, g := 3 }
    let run (last score gap : Nat) : Channel := { run := some ⟨0, last, score, gap⟩, best := none, flooded := false }
    ((1 : Int) ≤ 1 ∧ (0 : Int) ≤ 0 ∧ freshChannel.run = none) ∧
      ((run 0 1 2).run = some ⟨0, 0, 1, 2⟩ ∧ 2 + 1 ≤ p.g) ∧ p.g < 3 + 1 ∧
      28 - 0 + 1 < p.lmin ∧ (p.lmin ≤ 110 - 0 + 1 ∧ p.lmax < 110 - 0 + 1) ∧
      (p.lmin ≤ 29 - 0 + 1 ∧ 109 - 0 + 1 ≤ p.lmax ∧ 1499 < p.smin ∧ p.smin ≤ 1500) ∧
      ({ run 29 1500 0 with best := some ⟨0, 0, 1500⟩ } : Channel).best = some ⟨0, 0, 1500⟩ := by decide

/-- Findings: R-HIGH leading at 65535, with a rival at 32768, without one at 32767, and a lone R-HIGH trailing. -/
def findings (rival : Option Candidate) (start : Nat) : Vector (Option Candidate) 8 :=
  #v[some ⟨start, start + 40, 65535⟩, none, rival, none, none, none, none, none]

theorem first_of_findings (rival : Option Candidate) (start : Nat) (h : ∀ c, rival = some c → c.score ≤ 65535) :
    IsFirst (findings rival start) .tag 0 ⟨start, start + 40, 65535⟩ := by
  refine ⟨rfl, fun j d hd => ?_⟩
  have low : ∀ i : Fin 4, ¬ i < 0 := by decide
  refine ⟨?_, fun lt => absurd lt (low j)⟩
  match j, hd with
  | 0, hd => cases hd; exact Nat.le_refl _
  | 1, hd => cases hd
  | 2, hd => exact h d hd
  | 3, hd => cases hd

theorem test_witness_classes :
    (∀ i : Fin 8, (Vector.replicate 8 none : Vector (Option Candidate) 8)[i] = none) ∧
      (IsFirst (findings (some ⟨20, 60, 32768⟩) 20) .tag 0 ⟨20, 60, 65535⟩ ∧
        Rivalled (findings (some ⟨20, 60, 32768⟩) 20) 420 .tag 0 ⟨20, 60, 65535⟩) ∧
      (¬ Rivalled (findings none 20) 420 .tag 0 ⟨20, 60, 65535⟩ ∧
        codeAt 420 0 ⟨20, 60, 65535⟩ = .faced ⟨.up, false⟩) ∧
      (IsFirst (findings none 190) .tag 0 ⟨190, 230, 65535⟩ ∧
        ¬ Rivalled (findings none 190) 420 .tag 0 ⟨190, 230, 65535⟩ ∧ codeAt 420 0 ⟨190, 230, 65535⟩ = .unusual) ∧
      ∀ j, findingAt (Vector.replicate 8 none) .tag j = none := by
  have lone : ∀ start, ¬ Rivalled (findings none start) 420 .tag 0 ⟨start, start + 40, 65535⟩ := by
    rintro start ⟨j, d, hd, hc, -⟩
    match j, hd with
    | 0, hd => cases hd; exact hc rfl
    | 1, hd => cases hd
    | 2, hd => cases hd
    | 3, hd => cases hd
  exact ⟨by decide, ⟨first_of_findings _ 20 (by intro c h; cases h; decide), 2, ⟨20, 60, 32768⟩, rfl, by decide, by decide⟩,
    ⟨lone 20, rfl⟩, ⟨first_of_findings _ 190 (by intro c h; cases h), lone 190, rfl⟩, by decide⟩

/-- Windows that touch at one position, and windows one position apart. -/
theorem test_witness_flip :
    let w : Window := { fromPos := 100, toPos := some 200 }
    Overlap { fromPos := 0, toPos := some 100 } w ∧ ¬ Overlap { fromPos := 0, toPos := some 99 } w ∧
      Setting.turn ≠ .straight := by
  refine ⟨⟨?_, ?_⟩, ?_, by decide⟩
  · intro t h; cases h; decide
  · intro t h; cases h; decide
  · intro h; exact absurd (h.1 99 rfl) (by decide)

/-! ### Witnesses: heads -/

/-- A reservation from slot 0, with first column at 100, last at 101 and free at 142. -/
def mark1 (linked cut : Bool) : Reservation :=
  { holder := 7, linked := linked, cut := cut, slot := 0, bank := 0, cols := 2, leadClip := 0, first := 100, last := 101,
    free := 142 }

/-- The HIGH head in a state with these reservations, at a position. -/
def headAt (st : HeadState) (active pending : Option Reservation) (p : Pos) : State :=
  { State.reset with
    pos := p
    headHigh := { state := st, active := active, pending := pending, latch := 0, strobe := false } }

theorem test_witness_head_step :
    (State.reset.head .high).state = .offline ∧
      (let s := headAt .free (some (mark1 true false)) none 99
       (s.head .high).state = .free ∧ (mark1 true false).first ≠ s.pos) ∧
      (let s := headAt .free (some (mark1 true false)) none 100
       (mark1 true false).first = s.pos ∧ (mark1 true false).linked = true ∧ (mark1 true false).cut = false) ∧
      (mark1 false true).cut = true ∧
      (let s := headAt .marking (some (mark1 true false)) none 101
       (s.head .high).state = .marking ∧ (mark1 true false).last = s.pos) ∧
      (mark1 true false).free ≠ (headAt .recovering (some (mark1 true false)) none 141).pos ∧
      (let next : Reservation := { mark1 true false with first := 142, last := 142, free := 183 }
       let s := headAt .recovering (some (mark1 true false)) (some next) 142
       (s.head .high).state = .recovering ∧ (s.head .high).active = some (mark1 true false) ∧
         (mark1 true false).free = s.pos ∧ (s.head .high).pending = some next ∧ next.first = s.pos) := by decide

/-- Slot 0 with one column in its live bank and a free HIGH head, in RUNNING. -/
def loaded (active pending : Option Reservation) : State :=
  { headAt .free active pending 0 with
    store := State.reset.store.set 0
      { banks := #v[{ columns := Vector.replicate 128 0, count := 1 }, { columns := Vector.replicate 128 0, count := 0 }],
        live := 0, ready := false } }

/-- A request whose one column lies at the letter's first offset (M_pre is 10): its first column is at 2880. -/
def request : MarkRequest := { tag := 7, anchor := 0, facing := .up, slot := 0, start := 10, last := 20, lp := 420 }

theorem test_witness_wanted_mark :
    (State.reset.head .high).state = .offline ∧
      ((headAt .free none none 0).head .high).state ≠ .offline ∧
      (State.reset.store[(0 : Fin 4)].banks[(0 : Fin 2)].count = 0) ∧
      (let s := loaded none none
       s.store[(0 : Fin 4)].banks[(0 : Fin 2)].count = 1 ∧ request.start - s.params.mPre = 0 ∧
         (s.head .high).active = none ∧ (s.head .high).pending = none) ∧
      isBefore 2880 ({ mark1 true false with free := 2880 } : Reservation).free = false ∧
      isBefore 2880 ({ mark1 true false with free := 2881 } : Reservation).free = true := by decide

/-! ### Witnesses: time and derived rows -/

/-- RUNNING with a record and a stall count, dormant or not. -/
def stalled (count : Nat) (dormant : Bool) : State :=
  { withRecord (rec1 7 .toRead (some .r) 0) 300 with stallTimer := { count := count, dormant := dormant } }

/-- An elapsed time in a line state. -/
def elapsed (l : LineState) (n : Nat) : State :=
  { inLine l with throughput := { State.reset.throughput with elapsed := n } }

theorem test_witness_time_base :
    NothingHeld (stalled 0 false) ∧ ¬ Moving State.reset ∧
      (Moving (stalled 1998 false) ∧ (stalled 1998 false).track ≠ [] ∧ (stalled 1998 false).stallTimer.dormant = false ∧
        (stalled 1998 false).stallTimer.count + 1 < (stalled 1998 false).params.stallLimit) ∧
      ((stalled 1999 false).params.stallLimit ≤ (stalled 1999 false).stallTimer.count + 1 ∧
        (stalled 1999 false).stallTimer.count < 10000) ∧
      ((elapsed .idle 59998).line ≠ .standby ∧
        (elapsed .idle 59998).throughput.elapsed + 1 < (elapsed .idle 59998).params.interval * 1000) ∧
      (elapsed .idle 59999).params.interval * 1000 ≤ (elapsed .idle 59999).throughput.elapsed + 1 ∧
      NothingHeld (elapsed .standby 0) ∧ (elapsed .standby 0).line = .standby := by decide

theorem test_witness_time_rows :
    (Moving (stalled 1999 false) ∧ (stalled 1999 false).track ≠ [] ∧
        (stalled 1999 false).params.stallLimit ≤ nextCount (stalled 1999 false)) ∧
      nextCount (stalled 1998 false) < (stalled 1998 false).params.stallLimit ∧
      (elapsed .idle 59999).params.interval * 1000 ≤ (elapsed .idle 59999).throughput.elapsed + 1 ∧
      (elapsed .idle 59998).throughput.elapsed + 1 < (elapsed .idle 59998).params.interval * 1000 ∧
      (let s := { inLine .draining with release := .granted 0, pos := 401 }
       Moving s ∧ s.release = .granted 0 ∧ isAfter s.pos (0 + BitVec.ofNat 16 s.params.geo.arrivalLimit) = true) ∧
      (let s := { inLine .draining with release := .granted 0, pos := 400 }
       isAfter s.pos (0 + BitVec.ofNat 16 s.params.geo.arrivalLimit) = false) ∧
      State.reset.release = .none ∧
      (permitted.release = .waiting ∧ permitted.portF.inFlight = some { kind := .release, call := true } ∧
        PermitOpen permitted) ∧ ¬ PermitOpen { permitted with gap := 41 } := by decide

theorem test_witness_completion_rows :
    (let s := busyWith .feed .drain (inLine .draining)
     s.line = .draining ∧ s.track = [] ∧ s.release = .none ∧ s.portF.inFlight = some { kind := .drain, call := true }) ∧
      (inLine .draining).flight .feed ≠ some .drain ∧ State.reset.line ≠ .draining ∧
      (let s := busyWith .super (.swapTray (.tray 0)) (State.reset.setBin (.tray 0) ⟨.swapping, 9, 0, 500⟩)
       s.portS.inFlight = some { kind := .swapTray (.tray 0), call := true } ∧
         (s.bin (.tray 0)).state = .swapping ∧ (s.bin (.tray 0)).bound = 0) ∧
      (let s := busyWith .super (.swapTray (.tray 0)) (State.reset.setBin (.tray 0) ⟨.swapping, 9, 1, 500⟩)
       (s.bin (.tray 0)).bound ≠ 0) ∧
      State.reset.flight .super = none ∧
      (busyWith .print waitingLoad State.reset).portP.inFlight = some { kind := waitingLoad, call := true } ∧
      (∀ h, ((busyWith .print waitingLoad State.reset).head h).active = none ∧
        ((busyWith .print waitingLoad State.reset).head h).pending = none) ∧
      (((busyWith .print waitingLoad (headAt .free (some (mark1 true false)) none 0)).head .high).active =
          some (mark1 true false) ∧ (mark1 true false).slot = 0 ∧ (mark1 true false).bank = 0) ∧
      State.reset.flight .print = none :=
  ⟨by decide, by decide, by decide, by decide, by decide, rfl, rfl, (by intro h; cases h <;> decide), by decide, rfl⟩

/-! ### Witnesses: commands -/

theorem test_witness_start :
    (Ready State.reset .feed ∧ State.reset.line = .idle) ∧ (Ready (inLine .standby) .feed ∧ (inLine .standby).line = .standby) ∧
      (Ready (inLine .jammed) .feed ∧ (inLine .jammed).line = .jammed ∧ (inLine .jammed).line ≠ .idle) ∧
      (Ready (inLine .running) .feed ∧ (inLine .running).line = .running ∧ (inLine .running).track = [] ∧
        (inLine .running).release = .none) ∧
      (underWay.line = .running ∧ underWay.track ≠ []) ∧ (inLine .jammed).line ≠ .running := by decide

theorem test_witness_release :
    (Ready (inLine .running) .feed ∧ (inLine .running).line = .running ∧ (inLine .running).release = .none) ∧
      (let s := { inLine .running with release := .granted 0 }
       Ready s .feed ∧ s.release ≠ .none) ∧
      (inLine .draining).line ≠ .running ∧
      (let s := { inLine .running with training := Vector.replicate 8 64, gap := 40 }
       Ready s .feed ∧ NothingHeld s ∧ Settled s ∧ s.line = .running ∧ s.release = .none ∧ PermitOpen s) :=
  ⟨by decide, by decide, by decide, by decide, by decide,
    settled_of_calm _ (by intro x; cases x <;> rfl) (by intro x; cases x <;> rfl) (by decide) (by decide), by decide⟩

theorem test_witness_load_mark :
    (let s := ringed .print [4, 0] State.reset
     Ready s .print ∧ s.portP.ring = 4 :: 0 :: List.replicate 22 0 ∧ 4 ≤ (4 : Byte).toNat) ∧
      (let s := ringed .print [3, 129] State.reset
       Ready s .print ∧ s.portP.ring = 3 :: 129 :: List.replicate 22 0 ∧ (3 : Byte).toNat = (3 : Fin 4).val) ∧
      (∀ h, (State.reset.head h).active = none ∧ (State.reset.head h).pending = none) ∧
      (let s := ringed .print [0, 1] (headAt .free (some { mark1 true false with bank := 1 }) none 0)
       Ready s .print ∧ (s.head .high).active = some { mark1 true false with bank := 1 } ∧
         s.store[(0 : Fin 4)].live.rev = 1) :=
  ⟨by decide, by decide, (by intro h; cases h <;> decide), by decide⟩

/-- The LOAD MARK block phase before its last column, with and without a held first byte. -/
def loading (left : Nat) (first : Option Byte) : Load :=
  { slot := 0, bank := 1, count := 128, clamped := false, phase := .block left (128 - left) first }

theorem test_witness_load_block :
    (let s := busyWith .print (.loadMark (loading 128 none)) State.reset
     s.portP.held = none ∧ s.portP.inFlight = some { kind := .loadMark (loading 128 none), call := true } ∧
       (loading 128 none).phase = .block 128 0 none) ∧
      (loading 2 (some 1)).phase = .block 2 126 (some 1) ∧ (loading 1 (some 1)).phase = .block 1 127 (some 1) := by decide

theorem test_witness_heads_on_off :
    (let s := ringed .print [2] State.reset
     Ready s .print ∧ s.portP.ring = 2 :: List.replicate 23 0 ∧ 2 ≤ (2 : Byte).toNat) ∧
      (let s := ringed .print [1] State.reset
       Ready s .print ∧ s.portP.ring = 1 :: List.replicate 23 0 ∧ (s.head .low).state = .offline) ∧
      (let s := headAt .marking (some (mark1 true false)) none 100
       Ready s .print ∧ (s.head .high).state ≠ .offline) := by decide

/-- The identifier table at its ends and holes. -/
theorem test_witness_identifiers :
    (70, ParamId.capacity (.tray 5), 50, 4000, 500) ∈ parameterTable ∧ paramOfNat 0 = some (.geo .pR) ∧
      paramOfNat 22 = none ∧ paramOfNat 71 = none ∧ paramOfNat 255 = none := by
  refine ⟨by simp [parameterTable], by decide, by decide, by decide, by decide⟩

theorem test_witness_no_identifier : ∀ p lo hi dflt, (71, p, lo, hi, dflt) ∉ parameterTable := by
  intro p lo hi dflt
  simp [parameterTable]

/-- P_E (15) at the first consistent value, 5021, and at the last inconsistent one, 5020. -/
theorem test_witness_set_geometry :
    (let s := ringed .super [15, 0x13, 0x9D] State.reset
     Ready s .super ∧ s.portS.ring = 15 :: 0x13 :: 0x9D :: List.replicate 21 0 ∧
       (15, ParamId.geo .pE, 1, 16000, 5400) ∈ parameterTable ∧ Resting s) ∧
      (geoValue { defaultGeometry with pE := 5021 } .pE = 5021 ∧ Consistent { defaultGeometry with pE := 5021 }) ∧
      ¬ Consistent { defaultGeometry with pE := 5020 } ∧
      (Ready (ringed .print [15, 0, 0] State.reset) .print ∧ PortId.print ≠ .feed) ∧
      (Ready (inLine .jammed) .super ∧ ¬ Resting (inLine .jammed)) := by
  unfold Consistent; decide

/-- One identifier of each group, and the least capacity. -/
theorem test_witness_set_others :
    (Ready (ringed .print [56, 0, 0] State.reset) .print ∧ paramOfNat 56 = some .stallLimit ∧
        ParamId.stallLimit ≠ .mPre ∧ ParamId.stallLimit ≠ .recovery) ∧
      paramOfNat 48 = some .mPre ∧ paramOfNat 49 = some .recovery ∧ paramOfNat 57 = some .interval ∧
      (paramOfNat 32 = some (.det .tag .t) ∧ paramOfNat 33 = some (.det .tag .lmin) ∧
        paramOfNat 42 = some (.det .meter .lmax) ∧ paramOfNat 43 = some (.det .meter .smin) ∧
        paramOfNat 44 = some (.det .meter .g)) ∧
      (let s := ringed .super [64, 0, 49] State.reset
       Ready s .super ∧ s.portS.ring = 64 :: 0 :: 49 :: List.replicate 21 0 ∧
         paramOfNat 64 = some (.capacity .endTray)) := by decide

theorem test_witness_read_parameter :
    (let s := ringed .super [22] State.reset
     Ready s .super ∧ s.portS.ring = 22 :: List.replicate 23 0 ∧ paramOfNat 22 = none) ∧
      (let s := ringed .super [0] State.reset
       Ready s .super ∧ s.portS.ring = 0 :: List.replicate 23 0 ∧ paramOfNat 0 = some (.geo .pR)) := by decide

theorem test_witness_sort :
    (let s := ringed .super [9, 0, 0, 0] State.reset
     Ready s .super ∧ s.portS.ring = 9 :: 0 :: 0 :: 0 :: List.replicate 20 0 ∧ 9 ≤ (9 : Byte).toNat) ∧
      (let s := ringed .super [8, 6, 0, 0x83] State.reset
       Ready s .super ∧ s.portS.ring = 8 :: 6 :: 0 :: 0x83 :: List.replicate 20 0 ∧
         (8 : Byte).toNat = (8 : Fin 9).val ∧ (6 : Byte).toNat = (5 : Fin 6).val + 1) := by decide

theorem test_witness_tallies :
    Ready State.reset .super ∧ Resting State.reset ∧ Ready (inLine .draining) .super ∧ ¬ Resting (inLine .draining) := by
  decide

theorem test_witness_blocks :
    (let s := ringed .super [32, 1] State.reset
     Ready s .super ∧ s.portS.ring = 32 :: 1 :: List.replicate 22 0 ∧ 32 ≤ (32 : Byte).toNat) ∧
      (let s := ringed .super [31, 2] State.reset
       Ready s .super ∧ s.portS.ring = 31 :: 2 :: List.replicate 22 0 ∧ (31 : Byte).toNat ≤ 31) := by decide

theorem test_witness_block_reads :
    (let s := busyWith .super (.readTallies 1 31 2 false) State.reset
     s.portS.held = none ∧ s.portS.inFlight = some { kind := .readTallies 1 (31 : Fin 32).val 2 false, call := true }) ∧
      ((3 : Nat) = 3 ∧ 2 ≤ 2 ∧ (1 : Nat) = 1) ∧
      (let s := busyWith .super (.readBytes [1, 2]) State.reset
       s.portS.inFlight = some { kind := .readBytes (1 :: [2]), call := true } ∧ [(2 : Byte)] ≠ []) ∧
      (busyWith .super (.readBytes [1]) State.reset).portS.inFlight =
        some { kind := .readBytes (1 :: []), call := true } := by decide

theorem test_witness_trays :
    (let s := ringed .super [7] State.reset
     Ready s .super ∧ s.portS.ring = 7 :: List.replicate 23 0 ∧ 7 ≤ (7 : Byte).toNat) ∧
      (let s := ringed .super [6] (State.reset.setBin (.tray 5) ⟨.full, 500, 1, 500⟩)
       Ready s .super ∧ s.portS.ring = 6 :: List.replicate 23 0 ∧ (6 : Byte).toNat = (5 : Fin 6).val + 1 ∧
         (s.bin (.tray 5)).state = .full ∧ (s.bin (.tray 5)).bound ≠ 0) ∧
      (State.reset.bin .endTray).state = .available ∧ (State.reset.bin .endTray).bound = 0 ∧
      ((State.reset.setBin .endTray ⟨.withheld, 3, 2, 1000⟩).bin .endTray).state = .withheld ∧
      ((State.reset.setBin .endTray ⟨.swapping, 3, 2, 1000⟩).bin .endTray).state = .swapping := by decide

theorem test_witness_read_piece :
    (let s := ringed .super [8] (withRecord (rec1 7 .toRead (some .r) 0) 300)
     Ready s .super ∧ s.portS.ring = 8 :: List.replicate 23 0 ∧ ∀ r ∈ s.track, r.tag ≠ 8) ∧
      (let s := ringed .super [7] (withRecord (rec1 7 .toRead (some .r) 0) 300)
       Ready s .super ∧ s.portS.ring = 7 :: List.replicate 23 0 ∧ rec1 7 .toRead (some .r) 0 ∈ s.track ∧
         (s.track.map fun q => q.tag).Nodup) := by decide

theorem test_witness_reports : Ready State.reset .print ∧ Ready (inLine .jammed) .super := by decide

/-- JAMMED with a held record whose open window is the last reservation's, its Lp fixed; and with an empty track. -/
theorem test_witness_purge :
    (Ready (inLine .jammed) .super ∧ (inLine .jammed).line = .jammed ∧ (inLine .jammed).track = []) ∧
      (let r : Record :=
        { rec1 7 .held none 0 with
          lp := some 700, gate := some { setting := .straight, win := { fromPos := 1740, toPos := none } } }
       let s := { withRecord r 1200 with line := .jammed, lastRes := some (lastOf 7) }
       Ready s .super ∧ s.line = .jammed ∧ (s.track.map fun q => q.tag).Nodup ∧ s.lastRes = some (lastOf 7) ∧
         r ∈ s.track ∧ r.tag = (lastOf 7).holder ∧ (lastOf 7).win.toPos = none ∧ r.lp = some 700 ∧ s.track ≠ []) ∧
      (inLine .idle).line ≠ .jammed := by decide

end Sys2Proof.Tests
end

section
/-! PROOFS. The piece track: the trail edge at I (R13, R21) and READ PIECE (R31 to R34), with the rules they rest on for
a command taken at a ready port, for results pushed into an operand ring (R160) and for finding a record by its tag
(R18). -/

namespace Sys2Proof.Proofs

open Sys2Proof.Machine
open Sys2Proof.Claims

/-! ### A command at a ready port -/

/-- A listed command written at a ready port runs on the state with the access taken (R161, R163). -/
theorem command_of_ready {s : State} {c : Cmd} {x : PortId} (call : Bool) (ready : Ready s x)
    (listed : allowedAt c x = true) :
    s.command c x call = .next (runCmd c x call (taken s x (s.port x).ring)).settle := by
  obtain ⟨free, quiet, -⟩ := ready
  exact command_run s c x call free quiet listed

theorem complete_eq_finished (s : State) (x : PortId) (call : Bool) (code : Code) :
    s.complete x call code = finished s x code call := rfl

@[simp] theorem taken_track (s : State) (x : PortId) (ring : List Byte) : (taken s x ring).track = s.track := by
  simp [taken]

@[simp] theorem taken_read (s : State) (x : PortId) (ring : List Byte) : (taken s x ring).read = s.read := by
  simp [taken]

@[simp] theorem taken_ring (s : State) (x : PortId) (ring : List Byte) : ((taken s x ring).port x).ring = ring := by
  simp [taken]

/-- An operand taken off the ring a command found (R160). -/
theorem dropOperand_taken (s : State) (x : PortId) (n : Byte) (rest : List Byte) :
    (taken s x (n :: rest)).dropOperand x = taken s x (rest ++ [0]) := by
  simp [State.dropOperand, taken, ringTake]

/-! ### Results pushed into the ring -/

/-- A push onto a ring that is not empty keeps its length: what no longer fits is lost at the bottom (R160). -/
theorem ringPushAll_eq_take (bs ring : List Byte) (nonempty : ring ≠ []) :
    ringPushAll bs ring = (bs ++ ring).take ring.length := by
  obtain ⟨m, hm⟩ : ∃ m, ring.length = m + 1 := Nat.exists_eq_succ_of_ne_zero (by simpa using nonempty)
  induction bs with
  | nil => simp [ringPushAll]
  | cons b bs ih =>
    calc ringPushAll (b :: bs) ring = b :: (ringPushAll bs ring).dropLast := rfl
      _ = b :: (bs ++ ring).take m := by rw [ih, List.dropLast_eq_take, List.take_take]; simp [hm]
      _ = (b :: bs ++ ring).take ring.length := by rw [hm]; rfl

theorem push_taken (s : State) (x : PortId) (bs ring : List Byte) (whole : ring.length = 24) :
    (taken s x ring).push x bs = taken s x (pushed bs ring) := by
  have nonempty : ring ≠ [] := List.ne_nil_of_length_pos (by omega)
  simp [State.push, taken, pushed, ringPushAll_eq_take bs ring nonempty, whole]

/-! ### Records by their tag -/

theorem findRec_eq_none {s : State} {t : Tag} (absent : ∀ r ∈ s.track, r.tag ≠ t) : s.findRec t = none := by
  simpa [State.findRec] using absent

/-- While no two records share a tag, a record is found by its own (R18). -/
theorem findRec_tag {s : State} {r : Record} (mem : r ∈ s.track) (distinct : (s.track.map fun q => q.tag).Nodup) :
    s.findRec r.tag = some r := by
  cases found : s.findRec r.tag with
  | none =>
    have other : r.tag ≠ r.tag := by simpa using List.find?_eq_none.mp found r mem
    exact absurd rfl other
  | some q =>
    have same : q.tag = r.tag := by simpa using List.find?_some found
    rw [List.inj_on_of_nodup_map distinct (List.mem_of_find?_eq_some found) mem same]

@[simp] theorem findRec_taken (s : State) (x : PortId) (ring : List Byte) (t : Tag) :
    (taken s x ring).findRec t = s.findRec t := by
  simp [State.findRec]

/-- Rewriting the records of a tag, with the tag compared as a proposition. -/
theorem updTrack_eq_map (t : Tag) (f : Record → Record) (l : List Record) :
    updTrack t f l = l.map fun r => if r.tag = t then f r else r := by
  simp [updTrack]

/-! ### The trail edge at I -/

theorem moving_eq_true {s : State} (h : Moving s) : s.moving = true := by
  simpa [State.moving] using h

/-- A trail edge while the line moves: the level is taken, then the edge is judged (R3, R13). -/
theorem trail_of_moving {s : State} {x : Cell} (moving : Moving s) (was : s.level x = .blocked) :
    s.trail x = (seen s x .clear).judgeTrail x := by
  have still : (s.setLevel x .clear).moving = true := moving_eq_true moving
  have blocked : ¬ s.level x = .clear := by simp [was]
  exact (if_neg blocked).trans (if_pos still)

/-- A distance is below 65536, so an induction length never meets its limit (R21). -/
theorem distance_le (a b : Pos) : distance a b ≤ 65535 := Nat.le_of_lt_succ (b - a).isLt

theorem afterTrail_eq_ite (st : Stage) : afterTrail st = if st = .inducting then .toRead else st := by
  cases st <;> rfl

/-- Settles O32: the edge is judged at I, where the occupant's record is written. -/
theorem trailEdgeAtIEndsTheInduction : Obligations.TrailEdgeAtIEndsTheInduction := by
  intro s t moving was occupied
  have judged : (seen s .i .clear).judgeTrail .i = (seen s .i .clear).trailAtI t := by
    have kept : (seen s .i .clear).iOcc = some t := occupied
    simp [State.judgeTrail, kept]
  have edge : exec (.trailEdge .i) s = .next (s.trail .i).settle := rfl
  rw [edge, trail_of_moving moving was, judged]
  simp only [State.trailAtI, updTrack_eq_map, Nat.min_eq_left (distance_le _ _), afterTrail_eq_ite]
  rfl

/-! ### The piece summary -/

/-- The flags item, bit by bit from the lowest (R33, 11.9). -/
theorem flagsByte_eq_bits (r : Record) :
    r.flagsByte = byteOf (Nat.bit r.orient.isSome (Nat.bit (r.orient.any fun o => o.facing == .inv)
      (Nat.bit (r.orient.any fun o => o.needsTurn) (Nat.bit (r.gate.any fun g => g.setting == .turn)
      (Nat.bit (r.conflict == some true) (Nat.bit (r.gate.any fun g => g.win.toPos.isNone)
      (Nat.bit r.lp.isSome 0))))))) := by
  have weighted : r.flagsByte = byteOf (r.orient.isSome.toNat + (r.orient.any fun o => o.facing == .inv).toNat * 2 +
      (r.orient.any fun o => o.needsTurn).toNat * 4 + (r.gate.any fun g => g.setting == .turn).toNat * 8 +
      (r.conflict == some true).toNat * 16 + (r.gate.any fun g => g.win.toPos.isNone).toNat * 32 +
      r.lp.isSome.toNat * 64) := by
    unfold Record.flagsByte Record.windowOpen
    cases r.orient <;> cases r.gate <;> rfl
  rw [weighted]
  simp only [Nat.bit_val]
  congr 1
  omega

/-- What each flag of the item says (R33, 11.9). -/
theorem flagsByte_flags (r : Record) :
    (r.flagsByte.getLsbD 0 = true ↔ ∃ o, r.orient = some o) ∧
      (r.flagsByte.getLsbD 1 = true ↔ ∃ o, r.orient = some o ∧ o.facing = .inv) ∧
      (r.flagsByte.getLsbD 2 = true ↔ ∃ o, r.orient = some o ∧ o.needsTurn = true) ∧
      (r.flagsByte.getLsbD 3 = true ↔ ∃ g, r.gate = some g ∧ g.setting = .turn) ∧
      (r.flagsByte.getLsbD 4 = true ↔ r.conflict = some true) ∧
      (r.flagsByte.getLsbD 5 = true ↔ ∃ g, r.gate = some g ∧ g.win.toPos = none) ∧
      (r.flagsByte.getLsbD 6 = true ↔ ∃ n, r.lp = some n) ∧ r.flagsByte.getLsbD 7 = false := by
  simp only [flagsByte_eq_bits, byteOf, BitVec.getLsbD_ofNat, Nat.testBit_bit_zero, Nat.testBit_bit_succ]
  simp [Option.isSome_iff_exists, Option.any_eq_true]

theorem pieceSummary_taken (s : State) (x : PortId) (ring : List Byte) (r : Record) :
    (taken s x ring).pieceSummary r = s.pieceSummary r := by
  simp [State.pieceSummary, State.pieceLength, State.stepCount]

/-! ### READ PIECE -/

/-- READ PIECE at a ready port, its tag on top of the ring (R31, R161). -/
theorem exec_readPiece {s : State} {n : Byte} {rest : List Byte} (call : Bool) (ready : Ready s .super)
    (ring : s.portS.ring = n :: rest) :
    exec (.readPiece .super call) s = .next (cmdReadPiece .super call (taken s .super (n :: rest))).settle := by
  rw [← ring]
  exact command_of_ready (c := .readPiece) call ready rfl

theorem cmdReadPiece_absent {s : State} {n : Byte} {rest : List Byte} (x : PortId) (call : Bool)
    (absent : s.findRec n = none) :
    cmdReadPiece x call (taken s x (n :: rest)) = finished (taken s x (rest ++ [0])) x .notFound call := by
  simp only [cmdReadPiece, taken_ring, ringTop, List.headD_cons, dropOperand_taken, findRec_taken, absent,
    complete_eq_finished]

theorem cmdReadPiece_found {s : State} {n : Byte} {rest bytes : List Byte} {r : Record} (x : PortId) (call : Bool)
    (found : s.findRec n = some r) (whole : (n :: rest).length = 24) (summary : s.pieceSummary r = bytes) :
    cmdReadPiece x call (taken s x (n :: rest)) = finished (taken s x (pushed bytes (rest ++ [0]))) x .done call := by
  have length : (rest ++ [0]).length = 24 := by simpa using whole
  simp only [cmdReadPiece, taken_ring, ringTop, List.headD_cons, dropOperand_taken, findRec_taken, found,
    pieceSummary_taken, summary, push_taken _ _ _ _ length, complete_eq_finished]

/-- Settles O58: the record found by the tag is unique, and its summary is read item by item. -/
theorem readPieceReportsTheRecord : Obligations.ReadPieceReportsTheRecord := by
  intro s call n rest ready ring
  have whole : (n :: rest).length = 24 := by
    obtain ⟨-, -, full⟩ := ready
    rwa [← ring]
  refine ⟨fun absent => ?_, fun r mem named distinct => ?_⟩
  · rw [exec_readPiece call ready ring, cmdReadPiece_absent _ call (findRec_eq_none absent)]
  · intro counted length
    have found : s.findRec n = some r := named ▸ findRec_tag mem distinct
    have steps : (s.stepCount r.tag).getD 0 = counted := by
      unfold State.stepCount counted
      cases s.read with
      | idle => rfl
      | sampling | overrun => dsimp only; split <;> rfl
    have len : s.pieceLength r = length := by
      unfold State.pieceLength length
      rw [steps]
      cases r.stage with
      | inducting | toRead | reading => rfl
      | planned | held => cases r.lp <;> rfl
    obtain ⟨oriented, inverted, turns, turned, conflict, isOpen, fixed, spare⟩ := flagsByte_flags r
    refine ⟨r.flagsByte, oriented, inverted, turns, turned, conflict, isOpen, fixed, spare, ?_⟩
    rw [exec_readPiece call ready ring]
    congr 2
    refine cmdReadPiece_found _ call found whole ?_
    simp only [State.pieceSummary, bytes2, len, List.cons_append, List.nil_append, List.cons.injEq, true_and]
    refine ⟨?stage, ?cls, ?bin, ?mark, rfl, rfl, trivial⟩
    case stage => cases r.stage <;> rfl
    case cls =>
      cases r.cls with
      | none => rfl
      | some k => cases k <;> rfl
    case bin =>
      cases r.bin with
      | none => rfl
      | some b => cases b <;> rfl
    case mark =>
      cases r.mark with
      | none => rfl
      | some m =>
        cases m with
        | none | scheduled | done | incomplete => rfl
        | uncancelled reason => cases reason <;> rfl

end Sys2Proof.Proofs
end

section
/-! PROOFS. Induction and feed pacing: the letter that arrives on its grant (R19, R20, R42) and the line commands START,
STANDBY and DRAIN (R48 to R50). -/

namespace Sys2Proof.Proofs

open Sys2Proof.Machine
open Sys2Proof.Claims

/-! ### The next tag -/

/-- How the search for the next tag ends: after `j` carried values, at one that no record carries unless the search ran
out (R19). -/
theorem nextFreeTag_spec (n : Nat) (t : Tag) (l : List Record) :
    ∃ j ≤ n, nextFreeTag n t l = t + BitVec.ofNat 8 j ∧
      (∀ i < j, t + BitVec.ofNat 8 i ∈ l.map fun r => r.tag) ∧
      (j < n → t + BitVec.ofNat 8 j ∉ l.map fun r => r.tag) := by
  induction n generalizing t with
  | zero => exact ⟨0, le_rfl, by simp [nextFreeTag], by simp, by simp⟩
  | succ n ih =>
    by_cases carried : t ∈ l.map fun r => r.tag
    · obtain ⟨j, bounded, found, passed, free⟩ := ih (t + 1)
      have shift (i : Nat) : t + 1 + BitVec.ofNat 8 i = t + BitVec.ofNat 8 (i + 1) := by bv_omega
      have next : nextFreeTag (n + 1) t l = nextFreeTag n (t + 1) l := if_pos (by simpa using carried)
      refine ⟨j + 1, Nat.succ_le_succ bounded, by rw [next, found, shift], ?_, fun more => ?_⟩
      · rintro (_ | i) below
        · simpa using carried
        · exact shift i ▸ passed i (Nat.lt_of_succ_lt_succ below)
      · exact shift j ▸ free (Nat.lt_of_succ_lt_succ more)
    · have stop : nextFreeTag (n + 1) t l = t := if_neg (by simpa using carried)
      exact ⟨0, Nat.zero_le _, by simp [stop], by simp, by simpa using carried⟩

/-- `n` tags in a row, all carried, need `n` records. -/
theorem le_length_of_run_carried {n : Nat} {t : Tag} {l : List Record} (small : n ≤ 256)
    (carried : ∀ i < n, t + BitVec.ofNat 8 i ∈ l.map fun r => r.tag) : n ≤ l.length := by
  have distinct : ((List.range n).map fun i => t + BitVec.ofNat 8 i).Nodup := by
    refine List.Nodup.map_on (fun i hi j hj same => ?_) List.nodup_range
    rw [List.mem_range] at hi hj
    bv_omega
  have among : ((List.range n).map fun i => t + BitVec.ofNat 8 i) ⊆ l.map fun r => r.tag := by
    intro v mem
    obtain ⟨i, below, rfl⟩ := List.mem_map.mp mem
    exact carried i (List.mem_range.mp below)
  simpa using (List.subperm_of_subset distinct among).length_le

/-- A search of more values than there are records ends at a tag none carries, past carried ones alone (R19). -/
theorem nextFreeTag_free {n : Nat} {t : Tag} {l : List Record} (small : n ≤ 256) (room : l.length < n) :
    ∃ j < n, nextFreeTag n t l = t + BitVec.ofNat 8 j ∧
      (∀ i < j, t + BitVec.ofNat 8 i ∈ l.map fun r => r.tag) ∧ t + BitVec.ofNat 8 j ∉ l.map fun r => r.tag := by
  obtain ⟨j, bounded, found, passed, free⟩ := nextFreeTag_spec n t l
  have many : j ≤ l.length := le_length_of_run_carried (bounded.trans small) passed
  have ended : j < n := many.trans_lt room
  exact ⟨j, ended, found, passed, free ended⟩

/-- The next-tag counter after a creation with tag `t`: no record carries it, and every value it passed is carried
(R19). -/
theorem nextFreeTag_after_creation {t : Tag} {l : List Record} (room : l.length ≤ 32) :
    (∀ r ∈ l, r.tag ≠ nextFreeTag 33 (t + 1) l) ∧
      ∀ k : Nat, 1 ≤ k → k < (nextFreeTag 33 (t + 1) l - t).toNat → ∃ r ∈ l, r.tag = t + BitVec.ofNat 8 k := by
  obtain ⟨j, ended, found, passed, free⟩ :=
    nextFreeTag_free (t := t + 1) (n := 33) (by omega) (Nat.lt_succ_of_le room)
  refine ⟨fun r mem same => free (List.mem_map.mpr ⟨r, mem, same.trans found⟩), fun k positive below => ?_⟩
  have before : k - 1 < j := by rw [found] at below; bv_omega
  have tag : t + 1 + BitVec.ofNat 8 (k - 1) = t + BitVec.ofNat 8 k := by bv_omega
  exact List.mem_map.mp (tag ▸ passed (k - 1) before)

/-! ### The lead edge at I -/

/-- A lead edge at a clear cell: the level is taken, then the edge is judged (R3). -/
theorem lead_of_clear {s : State} {x : Cell} (was : s.level x = .clear) :
    s.lead x = (seen s x .blocked).judgeLead x := by
  have clear : ¬ s.level x = .blocked := by simp [was]
  exact if_neg clear

theorem judgeLead_at_i {s : State} (moving : Moving s) : s.judgeLead .i = s.leadAtI := by
  rcases moving with line | line <;> simp [State.judgeLead, line]

theorem atOrAfter_iff (b a : Pos) : atOrAfter b a = true ↔ distance a b ≤ 32767 := decide_eq_true_iff

/-- The arrival window holds the positions up to the arrival limit past the grant (R42). -/
theorem arrivalWindow_contains (s : State) (g p : Pos) (limit : s.params.geo.arrivalLimit ≤ 32767) :
    (s.arrivalWindow g).contains p = true ↔ distance g p ≤ s.params.geo.arrivalLimit := by
  have both : (s.arrivalWindow g).contains p = true ↔
      distance g p ≤ 32767 ∧ distance p (posPlus g s.params.geo.arrivalLimit) ≤ 32767 := by
    simp [State.arrivalWindow, Window.contains, atOrAfter_iff]
  rw [both]
  unfold distance posPlus
  bv_omega

theorem leadAtI_in_window {s : State} {g : Pos} (granted : s.release = .granted g)
    (limit : s.params.geo.arrivalLimit ≤ 32767) (within : distance g s.pos ≤ s.params.geo.arrivalLimit) :
    s.leadAtI = s.createRecord := by
  simp [State.leadAtI, granted, (arrivalWindow_contains s g s.pos limit).mpr within]

/-- A grant used or lapsed leaves the release state to the RELEASE in flight (R36). -/
theorem releaseAfterGrant_eq_ite (s : State) :
    s.releaseAfterGrant = if s.flight .feed = some .release then .waiting else .none := by
  simp [State.releaseAfterGrant, State.releaseInFlight]

/-- Settles O28: the edge falls within the grant's window, and the room a grant keeps in the track lets the search for
the next tag end. -/
theorem letterArrivesOnItsGrant : Obligations.LetterArrivesOnItsGrant := by
  intro s g moving was granted sound limit within
  have room : (s.track ++
      [({ tag := s.nextTag, stage := .inducting, next := some .r, anchor := s.pos } : Record)]).length ≤ 32 := by
    simpa using sound.granted g granted
  obtain ⟨fresh, passed⟩ := nextFreeTag_after_creation (t := s.nextTag) room
  refine ⟨_, fresh, passed, ?_⟩
  have edge : exec (.leadEdge .i) s = .next (s.lead .i).settle := rfl
  have judged : (seen s .i .blocked).judgeLead .i = (seen s .i .blocked).leadAtI := judgeLead_at_i moving
  have arrived : (seen s .i .blocked).leadAtI = (seen s .i .blocked).createRecord :=
    leadAtI_in_window granted (limit.trans (by omega)) within
  rw [edge, lead_of_clear was, judged, arrived]
  simp only [State.createRecord, releaseAfterGrant_eq_ite]
  rfl

/-! ### START, STANDBY and DRAIN -/

@[simp] theorem taken_line (s : State) (x : PortId) (ring : List Byte) : (taken s x ring).line = s.line := by
  simp [taken]

@[simp] theorem taken_release (s : State) (x : PortId) (ring : List Byte) :
    (taken s x ring).release = s.release := by
  simp [taken]

section
variable {s : State} (x : PortId) (call : Bool)

theorem cmdStart_idle (line : s.line = .idle) :
    cmdStart x call s = finished { s with line := .running } x .done call := by
  simp only [cmdStart, line, complete_eq_finished]

theorem cmdStart_standby (line : s.line = .standby) :
    cmdStart x call s =
      finished { s with line := .running, training := Vector.replicate 8 0 } x .done call := by
  simp only [cmdStart, line, complete_eq_finished]

theorem cmdStart_refused (line : s.line = .running ∨ s.line = .draining ∨ s.line = .jammed) :
    cmdStart x call s = finished s x .wrongState call := by
  rcases line with line | line | line <;> simp only [cmdStart, line, complete_eq_finished]

theorem cmdStandby_idle (line : s.line = .idle) :
    cmdStandby x call s = finished { s with line := .standby } x .done call := if_pos line

theorem cmdStandby_refused (line : s.line ≠ .idle) : cmdStandby x call s = finished s x .wrongState call := if_neg line

theorem cmdDrain_at_once (line : s.line = .running) (empty : s.track = []) (unasked : s.release = .none) :
    cmdDrain x call s = finished { s with line := .idle, stallTimer := stoppedTimer } x .done call := by
  simp [cmdDrain, line, empty, unasked, complete_eq_finished]

theorem cmdDrain_waits (line : s.line = .running) (more : s.track ≠ [] ∨ s.release ≠ .none) :
    cmdDrain x call s = staying { s with line := .draining } x .drain call := by
  have due : ¬ (s.track.isEmpty && s.release == .none) = true := by
    simpa [imp_iff_not_or] using more
  exact (if_pos line).trans (if_neg due)

theorem cmdDrain_refused (line : s.line ≠ .running) : cmdDrain x call s = finished s x .wrongState call := if_neg line

end

section
variable {s : State} (call : Bool) (ready : Ready s .feed)
include ready

theorem exec_start : exec (.start .feed call) s = .next (cmdStart .feed call (taken s .feed s.portF.ring)).settle :=
  command_of_ready (c := .start) call ready rfl

theorem exec_standby :
    exec (.standby .feed call) s = .next (cmdStandby .feed call (taken s .feed s.portF.ring)).settle :=
  command_of_ready (c := .standby) call ready rfl

theorem exec_drain : exec (.drain .feed call) s = .next (cmdDrain .feed call (taken s .feed s.portF.ring)).settle :=
  command_of_ready (c := .drain) call ready rfl

end

/-- Settles O44: each command is taken at the ready port, and the line state decides its case. -/
theorem startStandbyAndDrainMoveTheLine : Obligations.StartStandbyAndDrainMoveTheLine := by
  intro s call ready u
  have line : u.line = s.line := taken_line s .feed _
  have track : u.track = s.track := taken_track s .feed _
  have release : u.release = s.release := taken_release s .feed _
  rw [exec_start call ready, exec_standby call ready, exec_drain call ready, ← line, ← track, ← release]
  refine ⟨fun idle => ?_, fun standby => ?_, fun refused => ?_, fun idle => ?_, fun refused => ?_,
    fun running empty unasked => ?_, fun running more => ?_, fun refused => ?_⟩
  · rw [cmdStart_idle .feed call idle]
  · rw [cmdStart_standby .feed call standby]
  · rw [cmdStart_refused .feed call refused]
  · rw [cmdStandby_idle .feed call idle]
  · rw [cmdStandby_refused .feed call refused]
  · rw [cmdDrain_at_once .feed call running empty unasked]; rfl
  · rw [cmdDrain_waits .feed call running more]
  · rw [cmdDrain_refused .feed call refused]

end Sys2Proof.Proofs
end

section
/-! PROOFS. The stamp reader's runs: how a step acts on a channel's run and how a closed run is judged (R63 to R66). -/

namespace Sys2Proof.Proofs

open Sys2Proof.Machine
open Sys2Proof.Claims

/-! ### A closed run judged (R65, R66) -/

section
variable {c : Channel} {p : Detector} {r : Run}

theorem judge_short (short : r.last - r.start + 1 < p.lmin) : c.judge p r = c := if_pos short

theorem judge_long (enough : p.lmin ≤ r.last - r.start + 1) (long : p.lmax < r.last - r.start + 1) :
    c.judge p r = { c with flooded := true } :=
  (if_neg enough.not_gt).trans (if_pos long)

theorem judge_weak (enough : p.lmin ≤ r.last - r.start + 1) (fits : r.last - r.start + 1 ≤ p.lmax)
    (weak : r.score < p.smin) : c.judge p r = c :=
  (if_neg enough.not_gt).trans ((if_neg fits.not_gt).trans (if_pos weak))

/-- A run within the bounds of R65 becomes the best candidate exactly if it beats whatever candidate there is (R66). -/
theorem judge_candidate (enough : p.lmin ≤ r.last - r.start + 1) (fits : r.last - r.start + 1 ≤ p.lmax)
    (strong : p.smin ≤ r.score) :
    c.judge p r =
      if ∀ b ∈ c.best, b.score < r.score then { c with best := some ⟨r.start, r.last, r.score⟩ } else c := by
  simp only [Channel.judge, if_neg enough.not_gt, if_neg fits.not_gt, if_neg strong.not_gt]
  cases c.best with
  | none => simp
  | some b => simp

theorem judge_higher (enough : p.lmin ≤ r.last - r.start + 1) (fits : r.last - r.start + 1 ≤ p.lmax)
    (strong : p.smin ≤ r.score) (higher : ∀ b, c.best = some b → b.score < r.score) :
    c.judge p r = { c with best := some ⟨r.start, r.last, r.score⟩ } :=
  (judge_candidate enough fits strong).trans (if_pos higher)

theorem judge_not_higher {b : Candidate} (enough : p.lmin ≤ r.last - r.start + 1)
    (fits : r.last - r.start + 1 ≤ p.lmax) (strong : p.smin ≤ r.score) (best : c.best = some b)
    (kept : r.score ≤ b.score) : c.judge p r = c :=
  (judge_candidate enough fits strong).trans (if_neg fun higher => kept.not_gt (higher b best))

/-! ### A run closed (R64) -/

theorem closeRun_of_run (run : c.run = some r) : c.closeRun p = { c with run := none }.judge p r := by
  simp only [Channel.closeRun, run]

/-- The gap of a run plays no part when it is judged: closing it after the gap is lengthened closes it as it stood. -/
theorem closeRun_gap (n : Nat) (run : c.run = some r) :
    Channel.closeRun { c with run := some { r with gap := n } } p = c.closeRun p := by
  rw [closeRun_of_run run]
  rfl

/-! ### A step on a channel's run (R63, R64) -/

variable {o : Nat} {e : Int}

theorem sample_lit_opens (lit : 1 ≤ e) (run : c.run = none) :
    c.sample p o e = { c with run := some ⟨o, o, e.toNat, 0⟩ } := by
  simp only [Channel.sample, if_pos lit, run]

theorem sample_lit_extends (lit : 1 ≤ e) (run : c.run = some r) :
    c.sample p o e = { c with run := some ⟨r.start, o, min (r.score + e.toNat) 65535, 0⟩ } := by
  simp only [Channel.sample, if_pos lit, run]

theorem sample_unlit_without_run (unlit : e ≤ 0) (run : c.run = none) : c.sample p o e = c := by
  have dark : ¬ 1 ≤ e := Int.not_lt.mpr unlit
  simp only [Channel.sample, if_neg dark, run]

theorem sample_unlit_bridged (unlit : e ≤ 0) (run : c.run = some r) (bridged : r.gap + 1 ≤ p.g) :
    c.sample p o e = { c with run := some { r with gap := r.gap + 1 } } := by
  have dark : ¬ 1 ≤ e := Int.not_lt.mpr unlit
  simp only [Channel.sample, if_neg dark, run, if_neg bridged.not_gt]

theorem sample_unlit_closes (unlit : e ≤ 0) (run : c.run = some r) (past : p.g < r.gap + 1) :
    c.sample p o e = c.closeRun p := by
  have dark : ¬ 1 ≤ e := Int.not_lt.mpr unlit
  simp only [Channel.sample, if_neg dark, run, if_pos past]
  exact closeRun_gap (r.gap + 1) run

end

/-- Settles O35: the excess and the run decide a step's case, and the closed run's length and score its judgement. -/
theorem runsGrowCloseAndAreJudged : Obligations.RunsGrowCloseAndAreJudged := by
  refine ⟨fun c p o e => ⟨sample_lit_opens, fun r => sample_lit_extends, sample_unlit_without_run,
    fun r => sample_unlit_bridged, fun r => sample_unlit_closes⟩, fun c p r run => ?_⟩
  intro length
  rw [closeRun_of_run run]
  exact ⟨judge_short, judge_long, judge_weak, judge_higher (c := { c with run := none }),
    fun b => judge_not_higher (c := { c with run := none })⟩

end Sys2Proof.Proofs
end

section
/-! PROOFS. The facing planner: the coded candidates of a kind, C1 and C2 among them (R75, R76), and the class that follows
from them (R74 to R79). -/

namespace Sys2Proof.Proofs

open Sys2Proof.Machine
open Sys2Proof.Claims

/-! ### The highest score of a list (R76) -/

theorem topScore_eq_none {l : List Coded} : topScore l = none ↔ l = [] := by
  cases l with
  | nil => exact ⟨fun _ => rfl, fun _ => rfl⟩
  | cons a l =>
    rw [topScore]
    cases topScore l with
    | none => simp
    | some d => by_cases higher : a.2.score < d.2.score <;> simp [higher]

/-- The head of a list stands for it when nothing after it scores higher. -/
theorem topScore_cons_stays {a : Coded} {l : List Coded} (top : ∀ d, topScore l = some d → d.2.score ≤ a.2.score) :
    topScore (a :: l) = some a := by
  rw [topScore]
  cases found : topScore l with
  | none => rfl
  | some d => exact if_neg (top d found).not_gt

theorem topScore_cons_passes {a d : Coded} {l : List Coded} (top : topScore l = some d)
    (higher : a.2.score < d.2.score) : topScore (a :: l) = some d := by
  simp only [topScore, top, if_pos higher]

/-- What `topScore` finds is in the list, and nothing in the list scores higher. -/
theorem topScore_spec {l : List Coded} {d : Coded} (top : topScore l = some d) :
    d ∈ l ∧ ∀ e ∈ l, e.2.score ≤ d.2.score := by
  induction l generalizing d with
  | nil => cases top
  | cons a l ih =>
    by_cases stays : ∀ b, topScore l = some b → b.2.score ≤ a.2.score
    · obtain rfl : a = d := Option.some.inj ((topScore_cons_stays stays).symm.trans top)
      refine ⟨List.mem_cons_self, List.forall_mem_cons.mpr ⟨Nat.le_refl _, fun e mem => ?_⟩⟩
      cases found : topScore l with
      | none => simp [topScore_eq_none.mp found] at mem
      | some b => exact ((ih found).2 e mem).trans (stays b found)
    · push Not at stays
      obtain ⟨b, found, higher⟩ := stays
      obtain rfl : b = d := Option.some.inj ((topScore_cons_passes found higher).symm.trans top)
      obtain ⟨mem, bound⟩ := ih found
      exact ⟨List.mem_cons_of_mem a mem, List.forall_mem_cons.mpr ⟨higher.le, bound⟩⟩

/-- The element that scores higher than all before it, and no lower than all after it, is the one found. -/
theorem topScore_of_split {c : Coded} {before after : List Coded} (first : ∀ d ∈ before, d.2.score < c.2.score)
    (highest : ∀ d ∈ after, d.2.score ≤ c.2.score) : topScore (before ++ c :: after) = some c := by
  induction before with
  | nil => exact topScore_cons_stays fun d top => highest d (topScore_spec top).1
  | cons a l ih =>
    obtain ⟨lower, rest⟩ := List.forall_mem_cons.mp first
    exact topScore_cons_passes (ih rest) lower

/-! ### The coded candidates of a kind (R75, R76) -/

/-- The candidate on channel `i` of a kind with the code the statement gives it. -/
def coded (f : Findings) (lp : Nat) (k : Kind) (i : Fin 4) : Option Coded :=
  (findingAt f k i).map fun c => (codeAt lp i c, c)

theorem coded_eq_some {f : Findings} {lp : Nat} {k : Kind} {i : Fin 4} {d : Coded} :
    coded f lp k i = some d ↔ findingAt f k i = some d.2 ∧ d.1 = codeAt lp i d.2 := by
  simp only [coded, Option.map_eq_some_iff]
  constructor
  · rintro ⟨c, found, rfl⟩
    exact ⟨found, rfl⟩
  · rintro ⟨found, code⟩
    exact ⟨d.2, found, Prod.ext code.symm rfl⟩

/-- The side and band of a channel of a kind, in channel order (4.1). -/
def corner : Fin 4 → Side × Band
  | 0 => (.right, .high)
  | 1 => (.right, .low)
  | 2 => (.left, .high)
  | 3 => (.left, .low)

theorem findingAt_corner (f : Findings) (k : Kind) (i : Fin 4) :
    f[channelIx k (corner i).1 (corner i).2] = findingAt f k i := by
  cases k <;> match i with | 0 | 1 | 2 | 3 => rfl

/-- The model's code of a corner is the one the statement gives to the channel of that corner. -/
theorem orientCode_corner (lp : Nat) (i : Fin 4) (c : Candidate) :
    orientCode (corner i).1 (corner i).2 (c.end_ lp) = codeAt lp i c := by
  by_cases leading : 2 * ((c.start + c.last) / 2) < lp <;>
    match i with | 0 | 1 | 2 | 3 => simp [Candidate.end_, codeAt, orientCode, corner, leading]

theorem codedAt_corner (f : Findings) (lp : Nat) (k : Kind) (i : Fin 4) :
    codedAt f lp k (corner i).1 (corner i).2 = coded f lp k i := by
  simp only [codedAt, coded, findingAt_corner, orientCode_corner]

theorem codedOf_eq_filterMap (f : Findings) (lp : Nat) (k : Kind) :
    codedOf f lp k = (List.finRange 4).filterMap (coded f lp k) :=
  calc codedOf f lp k
      = ((List.finRange 4).map fun i => codedAt f lp k (corner i).1 (corner i).2).filterMap id := rfl
    _ = ((List.finRange 4).map (coded f lp k)).filterMap id := by simp only [codedAt_corner]
    _ = (List.finRange 4).filterMap (coded f lp k) := List.filterMap_map

theorem mem_codedOf {f : Findings} {lp : Nat} {k : Kind} {d : Coded} :
    d ∈ codedOf f lp k ↔ ∃ j, findingAt f k j = some d.2 ∧ d.1 = codeAt lp j d.2 := by
  simp only [codedOf_eq_filterMap, List.mem_filterMap, List.mem_finRange, true_and, coded_eq_some]

theorem topScore_codedOf_none {f : Findings} {k : Kind} (lp : Nat) (absent : ∀ j, findingAt f k j = none) :
    topScore (codedOf f lp k) = none := by
  refine topScore_eq_none.mpr (List.eq_nil_iff_forall_not_mem.mpr fun d mem => ?_)
  obtain ⟨j, found, -⟩ := mem_codedOf.mp mem
  exact absurd (absent j) (by simp [found])

/-- C1 is found: the channels before its own score lower, those after it no higher. -/
theorem topScore_codedOf_first {f : Findings} {k : Kind} {i : Fin 4} {c : Candidate} (lp : Nat) (c1 : IsFirst f k i c) :
    topScore (codedOf f lp k) = some (codeAt lp i c, c) := by
  obtain ⟨found, best⟩ := c1
  obtain ⟨before, after, split⟩ := List.append_of_mem (List.mem_finRange i)
  have ordered : (before ++ i :: after).Pairwise (· < ·) := split ▸ List.pairwise_lt_finRange 4
  have here : coded f lp k i = some (codeAt lp i c, c) := coded_eq_some.mpr ⟨found, rfl⟩
  rw [codedOf_eq_filterMap, split, List.filterMap_append, List.filterMap_cons_some here]
  refine topScore_of_split (fun d mem => ?_) (fun d mem => ?_)
  all_goals
    obtain ⟨j, place, at_j⟩ := List.mem_filterMap.mp mem
    obtain ⟨lower, lowerBefore⟩ := best j d.2 (coded_eq_some.mp at_j).1
  · exact lowerBefore ((List.pairwise_append.mp ordered).2.2 j place i List.mem_cons_self)
  · exact lower

/-! ### The decision from C1 and C2 (R76 to R78) -/

/-- Some candidate of the list has a code other than `c1`'s and more than half its score. -/
def Contested (l : List Coded) (c1 : Coded) : Prop := ∃ d ∈ l, d.1 ≠ c1.1 ∧ c1.2.score < 2 * d.2.score

theorem mem_others {l : List Coded} {c1 d : Coded} : d ∈ l.filter (fun c => c.1 != c1.1) ↔ d ∈ l ∧ d.1 ≠ c1.1 := by
  rw [List.mem_filter, bne_iff_ne]

/-- Without a C2 every candidate has C1's code. -/
theorem not_contested_of_no_second {l : List Coded} {c1 : Coded} (single : secondOf l c1 = none) : ¬ Contested l c1 := by
  rintro ⟨d, mem, other, -⟩
  have rival := mem_others.mpr ⟨mem, other⟩
  simp [topScore_eq_none.mp single] at rival

/-- C2 is too close exactly if some candidate with another code is: C2 scores the highest of them. -/
theorem tooClose_iff_contested {l : List Coded} {c1 c2 : Coded} (second : secondOf l c1 = some c2) :
    tooClose c1 c2 = true ↔ Contested l c1 := by
  obtain ⟨mem, highest⟩ := topScore_spec second
  obtain ⟨inList, other⟩ := mem_others.mp mem
  rw [tooClose, decide_eq_true_iff]
  constructor
  · exact fun close => ⟨c2, inList, other, close⟩
  · rintro ⟨d, memD, otherD, close⟩
    exact close.trans_le (Nat.mul_le_mul_left 2 (highest d (mem_others.mpr ⟨memD, otherD⟩)))

theorem decideKind_contested {k : Kind} {l : List Coded} {c1 : Coded} (contested : Contested l c1) :
    decideKind k l c1 = { cls := .ambiguous, orient := none, c1 := some c1.2 } := by
  unfold decideKind
  cases second : secondOf l c1 with
  | none => exact absurd contested (not_contested_of_no_second second)
  | some c2 => exact if_pos ((tooClose_iff_contested second).mpr contested)

theorem decideKind_uncontested {k : Kind} {l : List Coded} {c1 : Coded} (uncontested : ¬ Contested l c1) :
    decideKind k l c1 =
      match c1.1 with
      | .unusual => { cls := .unusual, orient := none, c1 := some c1.2 }
      | .faced o => { cls := facedClass k o.facing, orient := some o, c1 := some c1.2 } := by
  unfold decideKind
  cases second : secondOf l c1 with
  | none => rfl
  | some c2 => exact if_neg fun close => uncontested ((tooClose_iff_contested second).mp close)

theorem decideKind_unusual {k : Kind} {l : List Coded} {c1 : Coded} (uncontested : ¬ Contested l c1)
    (code : c1.1 = .unusual) : decideKind k l c1 = { cls := .unusual, orient := none, c1 := some c1.2 } := by
  rw [decideKind_uncontested uncontested, code]

theorem decideKind_faced {k : Kind} {l : List Coded} {c1 : Coded} {o : Orientation} (uncontested : ¬ Contested l c1)
    (code : c1.1 = .faced o) :
    decideKind k l c1 = { cls := facedClass k o.facing, orient := some o, c1 := some c1.2 } := by
  rw [decideKind_uncontested uncontested, code]

theorem decideKind_c1 (k : Kind) (l : List Coded) (c1 : Coded) : (decideKind k l c1).c1 = some c1.2 := by
  by_cases contested : Contested l c1
  · rw [decideKind_contested contested]
  · rw [decideKind_uncontested contested]
    cases c1.1 <;> rfl

/-! ### The class of an IN RANGE piece (R77) -/

theorem contested_codedOf_iff_rivalled {f : Findings} {lp : Nat} {k : Kind} {i : Fin 4} {c : Candidate} :
    Contested (codedOf f lp k) (codeAt lp i c, c) ↔ Rivalled f lp k i c := by
  constructor
  · rintro ⟨d, mem, other, close⟩
    obtain ⟨j, found, code⟩ := mem_codedOf.mp mem
    exact ⟨j, d.2, found, code ▸ other, close⟩
  · rintro ⟨j, d, found, other, close⟩
    exact ⟨(codeAt lp j d, d), mem_codedOf.mpr ⟨j, found, rfl⟩, other, close⟩

theorem classify_without_candidates {f : Findings} (lp : Nat) (absent : ∀ i : Fin 8, f[i] = none) :
    classify .inRange f lp = { cls := .unfaced, orient := none, c1 := none } := by
  have tag := topScore_codedOf_none (k := .tag) lp fun j => absent ⟨j, by omega⟩
  have meter := topScore_codedOf_none (k := .meter) lp fun j => absent ⟨j + 4, by omega⟩
  simp only [classify, classifyInRange, tag, meter]

/-- The METER kind decides only where no TAG channel has a candidate. -/
theorem classify_of_first {f : Findings} {k : Kind} {i : Fin 4} {c : Candidate} (lp : Nat)
    (noTag : k = .meter → ∀ j, findingAt f .tag j = none) (c1 : IsFirst f k i c) :
    classify .inRange f lp = decideKind k (codedOf f lp k) (codeAt lp i c, c) := by
  have first := topScore_codedOf_first lp c1
  cases k with
  | tag => simp only [classify, classifyInRange, first]
  | meter => simp only [classify, classifyInRange, topScore_codedOf_none lp (noTag rfl), first]

/-- Settles O37: `topScore` finds C1, and C2 is too close exactly if C1 has a rival. -/
theorem classFollowsFromTheFindings : Obligations.ClassFollowsFromTheFindings := by
  intro f lp
  refine ⟨⟨rfl, rfl⟩, ⟨rfl, rfl⟩, fun absent => ?_, fun k i c noTag c1 => ?_⟩
  · rw [classify_without_candidates lp absent]
    exact ⟨rfl, rfl⟩
  · simp only [classify_of_first lp noTag c1, ← contested_codedOf_iff_rivalled]
    refine ⟨decideKind_c1 _ _ _, fun contested => ?_, fun uncontested code => ?_, fun o uncontested code => ?_⟩
    · rw [decideKind_contested contested]
      exact ⟨rfl, rfl⟩
    · rw [decideKind_unusual uncontested code]
      exact ⟨rfl, rfl⟩
    · rw [decideKind_faced uncontested code]
      exact ⟨rfl, by cases k <;> cases o.facing <;> rfl⟩

end Sys2Proof.Proofs
end

section
/-! PROOFS. The cancel unit's commands HEAD ONLINE and HEAD OFFLINE (R104, R105), and what READ HEADS (R110) and
READ LINE (R158) report. -/

namespace Sys2Proof.Proofs

open Sys2Proof.Machine
open Sys2Proof.Claims

/-! ### The reservations of a head taken OFFLINE (R105) -/

theorem settleUnbegun_eq_offlinePending (s : State) (r : Reservation) :
    s.settleUnbegun false r = offlinePending s r := rfl

theorem settleActive_eq_offlineActive (s : State) (st : HeadState) (r : Reservation) :
    s.settleActive false st r = offlineActive st s r := by
  cases st with
  | marking | recovering => rfl
  | offline | free =>
    simp only [State.settleActive, settleUnbegun_eq_offlinePending, offlinePending, offlineActive]
    by_cases cut : r.cut = true
    · rw [if_pos cut, if_pos cut]
    · rw [if_neg cut, if_neg cut, if_neg cut]
      rfl

theorem settleSlot_eq_settled (s : State) (f : State → Reservation → State) (o : Option Reservation) :
    s.settleSlot f o = settled f s o := by
  cases o <;> rfl

theorem settleHead_eq_settled (s : State) (h : HeadId) :
    s.settleHead false h =
      settled offlinePending (settled (offlineActive (s.head h).state) s (s.head h).active) (s.head h).pending := by
  simp only [State.settleHead, settleSlot_eq_settled, settleActive_eq_offlineActive, settleUnbegun_eq_offlinePending]

/-! ### A head online and offline -/

section
variable {s : State} {h : HeadId}

theorem takeOnline_of_offline (offline : (s.head h).state = .offline) :
    s.takeOnline h = s.setHead h (bare .free) := if_pos offline

theorem takeOnline_of_online (online : (s.head h).state ≠ .offline) : s.takeOnline h = s := if_neg online

theorem takeOffline_of_offline (offline : (s.head h).state = .offline) : s.takeOffline h = s := if_pos offline

theorem takeOffline_of_online (online : (s.head h).state ≠ .offline) :
    s.takeOffline h =
      (settled offlinePending (settled (offlineActive (s.head h).state) s (s.head h).active)
        (s.head h).pending).setHead h (bare .offline) := by
  rw [← settleHead_eq_settled]
  exact if_neg online

end

/-! ### HEAD ONLINE and HEAD OFFLINE -/

@[simp] theorem taken_head (s : State) (x : PortId) (ring : List Byte) (h : HeadId) :
    (taken s x ring).head h = s.head h := by
  simp [taken]

theorem operand_taken (s : State) (x : PortId) (n : Byte) (rest : List Byte) :
    (taken s x (n :: rest)).operand x = n.toNat := by
  simp [State.operand, ringTop]

theorem headOfNat_eq_none {n : Nat} (big : 2 ≤ n) : headOfNat n = none := by
  obtain ⟨k, rfl⟩ := Nat.exists_eq_add_of_le' big
  rfl

section
variable {s : State} {n : Byte} {rest : List Byte} {h : HeadId} (x : PortId) (call : Bool)

theorem cmdHeadOnline_bad (bad : headOfNat n.toNat = none) :
    cmdHeadOnline x call (taken s x (n :: rest)) = finished (taken s x (rest ++ [0])) x .badOperand call := by
  simp only [cmdHeadOnline, operand_taken, dropOperand_taken, bad, complete_eq_finished]

theorem cmdHeadOffline_bad (bad : headOfNat n.toNat = none) :
    cmdHeadOffline x call (taken s x (n :: rest)) = finished (taken s x (rest ++ [0])) x .badOperand call := by
  simp only [cmdHeadOffline, operand_taken, dropOperand_taken, bad, complete_eq_finished]

theorem cmdHeadOnline_named (named : headOfNat n.toNat = some h) :
    cmdHeadOnline x call (taken s x (n :: rest)) =
      finished ((taken s x (rest ++ [0])).takeOnline h) x .done call := by
  simp only [cmdHeadOnline, operand_taken, dropOperand_taken, named, complete_eq_finished]

theorem cmdHeadOffline_named (named : headOfNat n.toNat = some h) :
    cmdHeadOffline x call (taken s x (n :: rest)) =
      finished ((taken s x (rest ++ [0])).takeOffline h) x .done call := by
  simp only [cmdHeadOffline, operand_taken, dropOperand_taken, named, complete_eq_finished]

end

section
variable {s : State} (call : Bool) (ready : Ready s .print)
include ready

theorem exec_headOnline :
    exec (.headOnline .print call) s = .next (cmdHeadOnline .print call (taken s .print s.portP.ring)).settle :=
  command_of_ready (c := .headOnline) call ready rfl

theorem exec_headOffline :
    exec (.headOffline .print call) s = .next (cmdHeadOffline .print call (taken s .print s.portP.ring)).settle :=
  command_of_ready (c := .headOffline) call ready rfl

end

/-- Settles O48: the operand names the head, and whether that head is OFFLINE decides the case. -/
theorem headsGoOnlineAndOffline : Obligations.HeadsGoOnlineAndOffline := by
  intro s call n rest ready ring u
  rw [exec_headOnline call ready, exec_headOffline call ready, ring]
  refine ⟨fun big => ?_, fun h number => ?_⟩
  · have bad := headOfNat_eq_none big
    rw [cmdHeadOnline_bad .print call bad, cmdHeadOffline_bad .print call bad]
    exact ⟨rfl, rfl⟩
  · have named : headOfNat n.toNat = some h := by
      rw [number]
      cases h <;> rfl
    have head : u.head h = s.head h := taken_head s .print _ h
    rw [cmdHeadOnline_named .print call named, cmdHeadOffline_named .print call named, ← head]
    refine ⟨fun offline => ?_, fun online => ?_⟩
    · rw [takeOnline_of_offline offline, takeOffline_of_offline offline]
      exact ⟨rfl, rfl⟩
    · rw [takeOnline_of_online online, takeOffline_of_online online]
      exact ⟨rfl, rfl⟩

/-! ### READ HEADS and READ LINE -/

theorem cmdReadHeads_taken (s : State) (x : PortId) (call : Bool) {ring : List Byte} (whole : ring.length = 24) :
    cmdReadHeads x call (taken s x ring) =
      finished (taken s x (pushed (s.headHigh.bytes ++ s.headLow.bytes) ring)) x .done call := by
  have high : (taken s x ring).headHigh = s.headHigh := taken_head s x ring .high
  have low : (taken s x ring).headLow = s.headLow := taken_head s x ring .low
  rw [cmdReadHeads, high, low, push_taken s x _ ring whole, complete_eq_finished]

theorem lineBytes_taken (s : State) (x : PortId) (ring : List Byte) : (taken s x ring).lineBytes = s.lineBytes := by
  simp [State.lineBytes, taken]

theorem cmdReadLine_taken {s : State} {ring bytes : List Byte} (x : PortId) (call : Bool) (whole : ring.length = 24)
    (report : s.lineBytes = bytes) :
    cmdReadLine x call (taken s x ring) = finished (taken s x (pushed bytes ring)) x .done call := by
  rw [cmdReadLine, lineBytes_taken, report, push_taken s x _ ring whole, complete_eq_finished]

theorem exec_readHeads {s : State} (call : Bool) (ready : Ready s .print) :
    exec (.readHeads .print call) s = .next (cmdReadHeads .print call (taken s .print s.portP.ring)).settle :=
  command_of_ready (c := .readHeads) call ready rfl

theorem exec_readLine {s : State} (call : Bool) (ready : Ready s .super) :
    exec (.readLine .super call) s = .next (cmdReadLine .super call (taken s .super s.portS.ring)).settle :=
  command_of_ready (c := .readLine) call ready rfl

/-- A head's number of reservations, as the byte READ HEADS pushes, is the sum over its two slots (R110). -/
theorem byteOf_held (d : Head) :
    byteOf d.held = (if d.active = none then (0 : Byte) else 1) + (if d.pending = none then (0 : Byte) else 1) := by
  unfold Head.held
  cases d.active <;> cases d.pending <;> rfl

/-- Settles O59: the bytes the model forms are those of the manual's codes, item by item. -/
theorem readHeadsAndReadLineReport : Obligations.ReadHeadsAndReadLineReport := by
  refine ⟨fun s call ready => ?heads, fun s call ready => ?line⟩
  case heads =>
    intro code held
    have bytes (d : Head) : d.bytes = [code d.state, held d] := by
      unfold Head.bytes
      rw [byteOf_held]
      cases d.state <;> rfl
    rw [exec_readHeads call ready]
    obtain ⟨-, -, (whole : s.portP.ring.length = 24)⟩ := ready
    rw [cmdReadHeads_taken s .print call whole, bytes, bytes]
    rfl
  case line =>
    rw [exec_readLine call ready]
    obtain ⟨-, -, whole⟩ := ready
    congr 2
    refine cmdReadLine_taken .super call whole ?_
    simp only [State.lineBytes, List.cons.injEq, and_true]
    refine ⟨?line, rfl, ?resetCause, ?jamCause, ?jamCell, ?release⟩
    case line => cases s.line <;> rfl
    case resetCause => cases s.resetCause <;> rfl
    case jamCause => cases s.jamCause <;> rfl
    case jamCell =>
      cases s.jamCell with
      | none => rfl
      | some x => cases x <;> rfl
    case release => cases s.release <;> rfl

end Sys2Proof.Proofs
end

section
/-! PROOFS. The mark store's LOAD MARK (R115, R116): the references to a bank that the heads hold (R111), the target
cleared at the take, and the phase the command enters. -/

namespace Sys2Proof.Proofs

open Sys2Proof.Machine
open Sys2Proof.Claims

/-! ### References to a bank (R111) -/

theorem reservation_references_iff {r : Reservation} {n : Fin 4} {b : Fin 2} :
    r.references n b = true ↔ r.slot = n ∧ r.bank = b := by
  simp [Reservation.references]

/-- A head references a bank through the reservation in either of its slots. -/
theorem head_references_iff {d : Head} {n : Fin 4} {b : Fin 2} :
    d.references n b = true ↔ ∃ r, (d.active = some r ∨ d.pending = some r) ∧ r.slot = n ∧ r.bank = b := by
  unfold Head.references
  cases d.active <;> cases d.pending <;> simp [reservation_references_iff, or_and_right, exists_or]

theorem bankReferenced_iff {s : State} {n : Fin 4} {b : Fin 2} :
    s.bankReferenced n b = true ↔
      ∃ h r, ((s.head h).active = some r ∨ (s.head h).pending = some r) ∧ r.slot = n ∧ r.bank = b := by
  rw [State.bankReferenced, Bool.or_eq_true, head_references_iff, head_references_iff]
  constructor
  · rintro (high | low)
    · exact ⟨.high, high⟩
    · exact ⟨.low, low⟩
  · rintro ⟨h, held⟩
    cases h with
    | high => exact .inl held
    | low => exact .inr held

theorem bankReferenced_eq_false_iff {s : State} {n : Fin 4} {b : Fin 2} :
    s.bankReferenced n b = false ↔
      ∀ h r, (s.head h).active = some r ∨ (s.head h).pending = some r → r.slot ≠ n ∨ r.bank ≠ b := by
  rw [← Bool.not_eq_true, bankReferenced_iff]
  simp only [not_exists, not_and, ← imp_iff_not_or, ne_eq]

theorem bankReferenced_taken (s : State) (x : PortId) (ring : List Byte) (n : Fin 4) (b : Fin 2) :
    (taken s x ring).bankReferenced n b = s.bankReferenced n b := by
  simp [State.bankReferenced, taken]

/-! ### The take of LOAD MARK (R116) -/

/-- Slot `n` as the take leaves it: the bank that is not live has count 0, and no shadow is ready (R116). -/
def withTargetCleared (s : State) (n : Fin 4) : State :=
  let m := s.store[n]
  s.setSlot n { m with banks := m.banks.set m.live.rev { m.banks[m.live.rev] with count := 0 }, ready := false }

/-- The load of slot `n` in a phase, its target the bank that is not live (R116). -/
def loadOf (s : State) (n : Fin 4) (count : Nat) (clamped : Bool) (phase : LoadPhase) : Load :=
  { slot := n, bank := s.store[n].live.rev, count := count, clamped := clamped, phase := phase }

section
variable {s : State} {n : Fin 4} (x : PortId) (call : Bool) (count : Nat) (clamped : Bool)

/-- Clearing the target leaves the heads, so the references are those the take found. -/
theorem beginLoad_eq_staying :
    s.beginLoad x call n count clamped =
      staying (withTargetCleared s n) x
        (.loadMark (if s.bankReferenced n s.store[n].live.rev then loadOf s n count clamped .wait
          else (loadOf s n count clamped .wait).begin_)) call := rfl

theorem beginLoad_unreferenced (unreferenced : s.bankReferenced n s.store[n].live.rev = false) :
    s.beginLoad x call n count clamped =
      staying (withTargetCleared s n) x (.loadMark (loadOf s n count clamped (.block count 0 none))) call := by
  rw [beginLoad_eq_staying, if_neg (ne_true_of_eq_false unreferenced)]
  rfl

theorem beginLoad_referenced (referenced : s.bankReferenced n s.store[n].live.rev = true) :
    s.beginLoad x call n count clamped =
      staying (withTargetCleared s n) x (.loadMark (loadOf s n count clamped .wait)) call := by
  rw [beginLoad_eq_staying, if_pos referenced]

end

/-! ### LOAD MARK (R115) -/

/-- Two operands taken off the ring a command found (R160). -/
theorem dropOperand_dropOperand_taken (s : State) (x : PortId) (m n : Byte) (rest : List Byte) :
    ((taken s x (m :: n :: rest)).dropOperand x).dropOperand x = taken s x (rest ++ [0, 0]) := by
  rw [dropOperand_taken, List.cons_append, dropOperand_taken, List.append_assoc, List.singleton_append]

theorem second_operand_taken (s : State) (x : PortId) (m n : Byte) (rest : List Byte) :
    ((taken s x (m :: n :: rest)).dropOperand x).operand x = n.toNat := by
  rw [dropOperand_taken, List.cons_append, operand_taken]

section
variable {s : State} {slot count : Byte} {rest : List Byte} (x : PortId) (call : Bool)

theorem cmdLoadMark_bad (bad : 4 ≤ slot.toNat) :
    cmdLoadMark x call (taken s x (slot :: count :: rest)) =
      finished (taken s x (rest ++ [0, 0])) x .badOperand call := by
  simp only [cmdLoadMark, operand_taken, dropOperand_dropOperand_taken, dif_neg bad.not_gt, complete_eq_finished]

theorem cmdLoadMark_named {n : Fin 4} (named : slot.toNat = n.val) :
    cmdLoadMark x call (taken s x (slot :: count :: rest)) =
      (taken s x (rest ++ [0, 0])).beginLoad x call n (clamp (1, 128) count.toNat)
        (clamp (1, 128) count.toNat != count.toNat) := by
  simp only [cmdLoadMark, operand_taken, second_operand_taken, dropOperand_dropOperand_taken, named, dif_pos n.isLt]

end

theorem exec_loadMark {s : State} (call : Bool) (ready : Ready s .print) :
    exec (.loadMark .print call) s = .next (cmdLoadMark .print call (taken s .print s.portP.ring)).settle :=
  command_of_ready (c := .loadMark) call ready rfl

/-- Settles O46: the slot operand decides between refusal and take, and the references to the target between the block
phase and the wait. -/
theorem loadMarkFixesItsTarget : Obligations.LoadMarkFixesItsTarget := by
  intro s call slot count rest ready ring u
  rw [exec_loadMark call ready, ring]
  refine ⟨fun bad => ?refused, fun n named => ?_⟩
  case refused => rw [cmdLoadMark_bad .print call bad]
  intro m b c cleared v l
  have references : u.bankReferenced n b = s.bankReferenced n b := bankReferenced_taken s .print _ n b
  rw [cmdLoadMark_named .print call named, ← bankReferenced_eq_false_iff, ← bankReferenced_iff, ← references]
  refine ⟨fun unreferenced => ?block, fun referenced => ?wait⟩
  case block =>
    rw [beginLoad_unreferenced .print call _ _ unreferenced]
    rfl
  case wait =>
    rw [beginLoad_referenced .print call _ _ referenced]
    rfl

end Sys2Proof.Proofs
end

section
/-! PROOFS. The stacker's commands: SET SORT ENTRY and READ SORT ENTRY (R123), SWAP TRAY (R130) and TRAY READY (R132). -/

namespace Sys2Proof.Proofs

open Sys2Proof.Machine
open Sys2Proof.Claims

/-! ### The numbers of bins and classes (R123) -/

theorem binOfNat_eq_none {n : Nat} (big : 7 ≤ n) : binOfNat n = none := by
  have notZero : n ≠ 0 := by omega
  simp [binOfNat, notZero, big]

/-- A bin is named by its index in the bin table. -/
theorem binOfNat_of_index {n : Nat} {b : Bin} (index : (binIx b).val = n) : binOfNat n = some b := by
  subst index
  cases b with
  | endTray => rfl
  | tray i => simp [binOfNat, binIx]

theorem classOfNat_eq_none {n : Nat} (big : 9 ≤ n) : classOfNat n = none := by
  obtain ⟨k, rfl⟩ := Nat.exists_eq_add_of_le' big
  rfl

/-- Each index of the sort plan is that of the class its number names. -/
theorem exists_classIx (i : Fin 9) : ∃ k, classIx k = i ∧ classOfNat i.val = some k := by
  match i with | 0 | 1 | 2 | 3 | 4 | 5 | 6 | 7 | 8 => exact ⟨_, rfl, rfl⟩

/-! ### The sort plan and the bins behind a take -/

@[simp] theorem taken_sort (s : State) (x : PortId) (ring : List Byte) : (taken s x ring).sort = s.sort := by
  simp [taken]

@[simp] theorem taken_bin (s : State) (x : PortId) (ring : List Byte) (b : Bin) : (taken s x ring).bin b = s.bin b := by
  simp [taken]

/-! ### SET SORT ENTRY and READ SORT ENTRY (R123) -/

section
variable {s : State} {k p a c : Byte} {rest : List Byte} (x : PortId) (call : Bool)

theorem cmdSetSortEntry_bad
    (bad : classOfNat k.toNat = none ∨ binOfNat p.toNat = none ∨ binOfNat a.toNat = none) :
    cmdSetSortEntry x call (taken s x (k :: p :: a :: c :: rest)) =
      finished (taken s x (rest ++ [0, 0, 0, 0])) x .badOperand call := by
  simp only [cmdSetSortEntry, operand_taken, dropOperand_taken, List.cons_append, List.append_assoc, List.nil_append]
  split
  next named primary alternate => simp [named, primary, alternate] at bad
  next => exact complete_eq_finished _ _ _ _

/-- The entry replaced is that of the class named; bit 7 of the fourth operand is its cancel bit (R123, 11.9). -/
theorem cmdSetSortEntry_named {kl : Machine.Class} {pb ab : Bin} (named : classOfNat k.toNat = some kl)
    (primary : binOfNat p.toNat = some pb) (alternate : binOfNat a.toNat = some ab) :
    cmdSetSortEntry x call (taken s x (k :: p :: a :: c :: rest)) =
      finished { taken s x (rest ++ [0, 0, 0, 0]) with
        sort := s.sort.set (classIx kl)
          { primary := pb, alternate := ab, cancel := decide (128 ≤ c.toNat), slot := slotOfByte c } } x .done call := by
  have bit : c.msb = decide (128 ≤ c.toNat) := BitVec.msb_eq_decide c
  simp only [cmdSetSortEntry, operand_taken, dropOperand_taken, List.cons_append, List.append_assoc, List.nil_append,
    named, primary, alternate, taken_ring, ringTop, List.headD_cons, taken_sort, bit, complete_eq_finished]

theorem cmdReadSortEntry_bad (bad : classOfNat k.toNat = none) :
    cmdReadSortEntry x call (taken s x (k :: rest)) = finished (taken s x (rest ++ [0])) x .badOperand call := by
  simp only [cmdReadSortEntry, operand_taken, dropOperand_taken, bad, complete_eq_finished]

theorem cmdReadSortEntry_named {kl : Machine.Class} (named : classOfNat k.toNat = some kl)
    (whole : (k :: rest).length = 24) :
    cmdReadSortEntry x call (taken s x (k :: rest)) =
      finished (taken s x (pushed [byteOf (binIx (s.sortEntry kl).primary), byteOf (binIx (s.sortEntry kl).alternate),
        cancelSlotByte (s.sortEntry kl).cancel (s.sortEntry kl).slot] (rest ++ [0]))) x .done call := by
  have length : (rest ++ [0]).length = 24 := by simpa using whole
  simp only [cmdReadSortEntry, operand_taken, dropOperand_taken, named, State.sortEntry, taken_sort,
    push_taken s x _ _ length, complete_eq_finished]

end

section
variable {s : State} (call : Bool) (ready : Ready s .super)
include ready

theorem exec_setSortEntry :
    exec (.setSortEntry .super call) s = .next (cmdSetSortEntry .super call (taken s .super s.portS.ring)).settle :=
  command_of_ready (c := .setSortEntry) call ready rfl

theorem exec_readSortEntry :
    exec (.readSortEntry .super call) s = .next (cmdReadSortEntry .super call (taken s .super s.portS.ring)).settle :=
  command_of_ready (c := .readSortEntry) call ready rfl

theorem exec_swapTray :
    exec (.swapTray .super call) s = .next (cmdSwapTray .super call (taken s .super s.portS.ring)).settle :=
  command_of_ready (c := .swapTray) call ready rfl

theorem exec_trayReady :
    exec (.trayReady .super call) s = .next (cmdTrayReady .super call (taken s .super s.portS.ring)).settle :=
  command_of_ready (c := .trayReady) call ready rfl

end

/-- Settles O53: the operands name a class and two bins or none, and the entry is the one at the class's index. -/
theorem sortPlanCommandsReplaceAndReportEntries : Obligations.SortPlanCommandsReplaceAndReportEntries := by
  intro s call k p a c rest ready ring u v number
  have binIx_number (b : Bin) : (binIx b).val = number b := by cases b <;> rfl
  rw [exec_setSortEntry call ready, exec_readSortEntry call ready, ring]
  obtain ⟨-, -, (whole : s.portS.ring.length = 24)⟩ := ready
  rw [ring] at whole
  refine ⟨fun bad => ?setRefused, fun i pb ab named primary alternate => ?replaced, fun big => ?readRefused,
    fun i named => ?reported⟩
  case setRefused =>
    rw [cmdSetSortEntry_bad .super call (bad.imp classOfNat_eq_none (Or.imp binOfNat_eq_none binOfNat_eq_none))]
  case replaced =>
    obtain ⟨kl, rfl, ofIndex⟩ := exists_classIx i
    rw [← named] at ofIndex
    rw [← binIx_number, eq_comm] at primary alternate
    rw [cmdSetSortEntry_named .super call ofIndex (binOfNat_of_index primary) (binOfNat_of_index alternate)]
    rfl
  case readRefused =>
    rw [cmdReadSortEntry_bad .super call (classOfNat_eq_none big)]
  case reported =>
    obtain ⟨kl, rfl, ofIndex⟩ := exists_classIx i
    rw [← named] at ofIndex
    rw [cmdReadSortEntry_named .super call ofIndex whole, binIx_number, binIx_number]
    rfl

/-! ### SWAP TRAY (R130) and TRAY READY (R132) -/

section
variable {s : State} {n : Byte} {rest : List Byte} {b : Bin} (x : PortId) (call : Bool)

theorem cmdSwapTray_bad (bad : binOfNat n.toNat = none) :
    cmdSwapTray x call (taken s x (n :: rest)) = finished (taken s x (rest ++ [0])) x .badOperand call := by
  simp only [cmdSwapTray, operand_taken, dropOperand_taken, bad, complete_eq_finished]

theorem cmdSwapTray_named (named : binOfNat n.toNat = some b) :
    cmdSwapTray x call (taken s x (n :: rest)) = (taken s x (rest ++ [0])).swap x call b := by
  simp only [cmdSwapTray, operand_taken, dropOperand_taken, named]

theorem not_away (present : (s.bin b).state = .available ∨ (s.bin b).state = .full) :
    ¬ ((s.bin b).state = .swapping ∨ (s.bin b).state = .withheld) := by
  rcases present with state | state <;> simp [state]

/-- A bin that is SWAPPING or WITHHELD is not swapped (R130). -/
theorem swap_away (away : (s.bin b).state = .swapping ∨ (s.bin b).state = .withheld) :
    s.swap x call b = finished s x .targetBusy call := if_pos away

/-- A bin no record is bound to is WITHHELD at once (R130). -/
theorem swap_unbound (present : (s.bin b).state = .available ∨ (s.bin b).state = .full)
    (unbound : (s.bin b).bound = 0) :
    s.swap x call b = finished (s.setBin b { s.bin b with state := .withheld }) x .done call :=
  (if_neg (not_away present)).trans (if_pos unbound)

/-- A bin with records bound to it waits for them, the command in flight (R130). -/
theorem swap_bound (present : (s.bin b).state = .available ∨ (s.bin b).state = .full)
    (bound : (s.bin b).bound ≠ 0) :
    s.swap x call b = staying (s.setBin b { s.bin b with state := .swapping }) x (.swapTray b) call :=
  (if_neg (not_away present)).trans (if_neg bound)

theorem cmdTrayReady_bad (bad : binOfNat n.toNat = none) :
    cmdTrayReady x call (taken s x (n :: rest)) = finished (taken s x (rest ++ [0])) x .badOperand call := by
  simp only [cmdTrayReady, operand_taken, dropOperand_taken, bad, complete_eq_finished]

theorem cmdTrayReady_withheld (named : binOfNat n.toNat = some b) (withheld : (s.bin b).state = .withheld) :
    cmdTrayReady x call (taken s x (n :: rest)) =
      finished ((taken s x (rest ++ [0])).setBin b { s.bin b with state := .available, count := 0 }) x .done call := by
  simp only [cmdTrayReady, operand_taken, dropOperand_taken, named, taken_bin, if_pos withheld, complete_eq_finished]

theorem cmdTrayReady_present (named : binOfNat n.toNat = some b) (present : (s.bin b).state ≠ .withheld) :
    cmdTrayReady x call (taken s x (n :: rest)) = finished (taken s x (rest ++ [0])) x .wrongState call := by
  simp only [cmdTrayReady, operand_taken, dropOperand_taken, named, taken_bin, if_neg present, complete_eq_finished]

end

/-- Settles O57: the operand names the bin, and the bin's state and its bound number decide the case. -/
theorem traysAreSwappedAndMadeReady : Obligations.TraysAreSwappedAndMadeReady := by
  intro s call n rest ready ring u
  rw [exec_swapTray call ready, exec_trayReady call ready, ring]
  refine ⟨fun big => ?refused, fun b number => ?named⟩
  case refused =>
    have bad := binOfNat_eq_none big
    rw [cmdSwapTray_bad .super call bad, cmdTrayReady_bad .super call bad]
    exact ⟨rfl, rfl⟩
  case named =>
    intro e
    have index : (binIx b).val = n.toNat := by
      rw [number]
      cases b <;> rfl
    have named := binOfNat_of_index index
    have entry : u.bin b = e := taken_bin s .super _ b
    rw [cmdSwapTray_named .super call named]
    refine ⟨fun away => ?away, fun present => ⟨fun unbound => ?unbound, fun bound => ?bound⟩, fun withheld => ?withheld,
      fun present => ?present⟩
    case away => rw [swap_away .super call (entry ▸ away)]
    case unbound => rw [swap_unbound .super call (entry ▸ present) (entry ▸ unbound), entry]
    case bound => rw [swap_bound .super call (entry ▸ present) (entry ▸ bound), entry]
    case withheld => rw [cmdTrayReady_withheld .super call named withheld]
    case present => rw [cmdTrayReady_present .super call named present]

end Sys2Proof.Proofs
end


section
/-! PROOFS. The tallies: SNAPSHOT TALLIES (R139) and CLEAR TALLIES (R142). -/

namespace Sys2Proof.Proofs

open Sys2Proof.Machine
open Sys2Proof.Claims

@[simp] theorem taken_live (s : State) (x : PortId) (ring : List Byte) : (taken s x ring).live = s.live := by
  simp [taken]

/-! ### The line at rest (R142) -/

theorem atRest_iff_resting (s : State) : s.atRest = true ↔ Resting s := by
  simp [State.atRest]

theorem resting_taken_iff (s : State) (x : PortId) (ring : List Byte) : Resting (taken s x ring) ↔ Resting s := by
  simp [Resting]

/-! ### SNAPSHOT TALLIES (R139) and CLEAR TALLIES (R142) -/

section
variable {s : State} (x : PortId) (call : Bool)

theorem cmdSnapshotTallies_eq_finished :
    cmdSnapshotTallies x call s = finished { s with snapshot := s.live } x .done call :=
  complete_eq_finished _ _ _ _

theorem cmdClearTallies_resting (resting : Resting s) :
    cmdClearTallies x call s =
      finished { s with live := Vector.replicate 32 0, throughput := freshThroughput } x .done call :=
  if_pos ((atRest_iff_resting s).mpr resting)

theorem cmdClearTallies_refused (active : ¬ Resting s) :
    cmdClearTallies x call s = finished s x .wrongState call :=
  if_neg (mt (atRest_iff_resting s).mp active)

end

section
variable {s : State} (call : Bool) (ready : Ready s .super)
include ready

theorem exec_snapshotTallies :
    exec (.snapshotTallies .super call) s =
      .next (cmdSnapshotTallies .super call (taken s .super s.portS.ring)).settle :=
  command_of_ready (c := .snapshotTallies) call ready rfl

theorem exec_clearTallies :
    exec (.clearTallies .super call) s = .next (cmdClearTallies .super call (taken s .super s.portS.ring)).settle :=
  command_of_ready (c := .clearTallies) call ready rfl

end

/-- Settles O54: both commands are taken at the ready port; the take leaves the counters and the line state, which
decides whether CLEAR TALLIES clears. The cleared throughput state is the one of power-on (R142, R146). -/
theorem snapshotCopiesAndClearZeroes : Obligations.SnapshotCopiesAndClearZeroes := by
  intro s call ready u
  have live : u.live = s.live := taken_live s .super _
  have rest : Resting u ↔ Resting s := resting_taken_iff s .super _
  rw [exec_snapshotTallies call ready, exec_clearTallies call ready, ← live, ← rest]
  refine ⟨?snapshot, fun resting => ?cleared, fun active => ?refused⟩
  case snapshot => rw [cmdSnapshotTallies_eq_finished]
  case cleared =>
    rw [cmdClearTallies_resting .super call resting]
    rfl
  case refused => rw [cmdClearTallies_refused .super call active]

end Sys2Proof.Proofs
end

section
/-! PROOFS. Power-on values (R157), the line reset and its two sources (R154 to R156). -/

namespace Sys2Proof.Proofs

open Sys2Proof.Machine
open Sys2Proof.Claims

/-! ### The values after power-on (R157) -/

theorem reset_port (x : PortId) : State.reset.port x = freshPort := by
  cases x <;> rfl

theorem reset_head (h : HeadId) : State.reset.head h = offlineHead := by
  cases h <;> rfl

/-- Bin 0 has a capacity of its own, the six trays share one (R124). -/
theorem reset_bin (b : Bin) : State.reset.bin b = freshBin (if b = .endTray then 1000 else 500) := by
  cases b with
  | endTray => rfl
  | tray k => revert k; decide

/-- Each mark slot is empty: both banks without columns, bank 0 live, no shadow ready (R121). -/
theorem reset_store (n : Fin 4) :
    State.reset.store[n].live = 0 ∧ State.reset.store[n].ready = false ∧
      ∀ b : Fin 2, State.reset.store[n].banks[b].count = 0 ∧
        ∀ i : Fin 128, State.reset.store[n].banks[b].columns[i] = 0 := by
  have slot : State.reset.store[n] = emptySlot := Vector.getElem_replicate _
  have bank (b : Fin 2) : emptySlot.banks[b] = emptyBank := Vector.getElem_replicate _
  rw [slot]
  refine ⟨rfl, rfl, fun b => ?_⟩
  rw [bank b]
  exact ⟨rfl, fun i => Vector.getElem_replicate _⟩

/-- The parameter store and the capacities stand at the defaults of the table, row by row (11.9). -/
theorem stored_reset {id lo hi dflt : Nat} {p : ParamId} (row : (id, p, lo, hi, dflt) ∈ parameterTable) :
    stored State.reset p = dflt := by
  have rows : ∀ row ∈ parameterTable, stored State.reset row.2.1 = row.2.2.2.2 := by decide
  exact rows _ row

/-- Settles O11: block by block from the defaults `State.reset` is built of. -/
theorem powerOnValuesFollowTheSpec : Obligations.PowerOnValuesFollowTheSpec := by
  unfold Obligations.PowerOnValuesFollowTheSpec
  refine ⟨?line, ?ports, ?checkpoints, ?track, ?induction, ?planner, ?heads, reset_store, ?sort, ?bins, ?gates,
    ?counters, ?throughput, fun id p lo hi dflt => stored_reset⟩
  case line | checkpoints | track => exact ⟨rfl, rfl, rfl, rfl⟩
  case planner => exact ⟨rfl, rfl⟩
  case ports =>
    intro x
    rw [reset_port x]
    exact ⟨rfl, rfl, rfl, rfl, rfl, rfl, rfl, rfl⟩
  case induction => exact ⟨fun i => Vector.getElem_replicate _, fun i => Vector.getElem_replicate _, rfl⟩
  case heads =>
    intro h
    rw [reset_head h]
    exact ⟨rfl, rfl, rfl, rfl⟩
  case sort => rfl
  case bins =>
    intro b
    rw [reset_bin b]
    exact ⟨rfl, rfl, rfl, rfl⟩
  case gates => exact fun k => Vector.getElem_replicate _
  case counters => exact ⟨fun i => Vector.getElem_replicate _, fun i => Vector.getElem_replicate _⟩
  case throughput => exact ⟨fun i => Vector.getElem_replicate _, rfl, rfl⟩

/-! ### The state after a line reset (R154) -/

theorem port_lineReset_eq (p : Port) : p.lineReset = portAfterReset p := by
  cases flight : p.inFlight <;> simp [Port.lineReset, portAfterReset, Port.busy, flight]

theorem head_lineReset_eq (d : Head) : d.lineReset = headAfterReset d := rfl

/-- The counters after a line reset: Purged by the records removed, Line resets by one, without notice (R138). -/
theorem addTally_purged_lineResets_live (s : State) (n : Nat) :
    ((s.addTally .purged n).addTally .lineResets 1).live =
      (s.live.set 2 (min (s.live[2] + n) 4294967295)).set 31 (min (s.live[31] + 1) 4294967295) := by
  have apart : (s.live.set 2 (min (s.live[2] + n) 4294967295))[31] = s.live[31] :=
    Vector.getElem_set_ne (by decide) (by decide) (by decide)
  rw [← apart]
  rfl

theorem lineReset_eq_afterLineReset (s : State) (cause : ResetCause) : s.lineReset cause = afterLineReset s cause := by
  simp only [State.lineReset, addTally_purged_lineResets_live, port_lineReset_eq, head_lineReset_eq]
  rfl

/-! ### The two sources (R155, R156) -/

section
variable {s : State}

theorem resetInput_asserted (was : s.resetLevel = false) :
    s.resetInput true = { afterLineReset s .lineInput with resetLevel := true } := by
  simp only [State.resetInput, was, lineReset_eq_afterLineReset]
  rfl

theorem resetInput_held (was : s.resetLevel = true) : s.resetInput true = s := by
  have same : { s with resetLevel := true } = s := by rw [← was]
  simp [State.resetInput, was, same]

theorem resetInput_released : s.resetInput false = { s with resetLevel := false } := rfl

/-- A line reset does not show what the take of LINE RESET did: the line it cleared is cleared again (R154, R163). -/
theorem afterLineReset_taken (s : State) (cause : ResetCause) :
    afterLineReset (taken s .super s.portS.ring) cause = afterLineReset s cause := rfl

theorem cmdLineReset_taken (x : PortId) (call : Bool) :
    cmdLineReset x call (taken s .super s.portS.ring) = finished (afterLineReset s .lineCommand) x .done call := by
  rw [cmdLineReset, lineReset_eq_afterLineReset, afterLineReset_taken, complete_eq_finished]

theorem exec_lineReset (call : Bool) (ready : Ready s .super) :
    exec (.lineReset .super call) s = .next (cmdLineReset .super call (taken s .super s.portS.ring)).settle :=
  command_of_ready (c := .lineReset) call ready rfl

end

/-- Settles O13: the level before the event tells an assertion from a held input, and the command is taken at its ready
port. -/
theorem lineResetHasItsTwoSources : Obligations.LineResetHasItsTwoSources := by
  intro s
  have event (asserted : Bool) : exec (.resetInput asserted) s = .next (s.resetInput asserted).settle := rfl
  refine ⟨fun was => ?asserted, fun was => ?held, ?released, fun ready call => ?command⟩
  case asserted => rw [event, resetInput_asserted was]
  case held => rw [event, resetInput_held was]
  case released => rw [event, resetInput_released]
  case command => rw [exec_lineReset call ready, cmdLineReset_taken]

end Sys2Proof.Proofs
end

section
/-! PROOFS. The jam cleared: PURGE (R28, R85, R152) and RESUME (R153). -/

namespace Sys2Proof.Proofs

open Sys2Proof.Machine
open Sys2Proof.Claims

/-! ### The open windows of the held records (R85) -/

section
variable {s : State} {r : Record}

theorem closeHeld_of_closed (closed : ∀ g, r.gate = some g → g.win.toPos ≠ none) : s.closeHeld r = s := by
  unfold State.closeHeld
  split
  next g n gate lp => exact if_neg (by simpa using closed g gate)
  next => rfl

theorem closeHeld_of_open {g : GatePlan} {n : Nat} (gate : r.gate = some g) (unclosed : g.win.toPos = none)
    (lp : r.lp = some n) : s.closeHeld r = s.closeFlip r n := by
  simp [State.closeHeld, gate, lp, unclosed]

/-- Closing a record's window reaches no field but the track and the last reservation (R85). -/
theorem closeFlip_reach (s : State) (r : Record) (n : Nat) :
    ∃ track, s.closeFlip r n = { s with track := track, lastRes := (s.closeFlip r n).lastRes } := by
  unfold State.closeFlip
  dsimp only
  split
  · exact ⟨_, rfl⟩
  · split <;> exact ⟨_, rfl⟩

theorem closeFlip_lastRes_other {n : Nat} (other : ∀ l, s.lastRes = some l → l.holder ≠ r.tag) :
    (s.closeFlip r n).lastRes = s.lastRes := by
  unfold State.closeFlip
  cases last : s.lastRes with
  | none => simp [last]
  | some l => simp [last, other l last]

theorem closeFlip_lastRes_holder {l : FlipReservation} {n : Nat} (last : s.lastRes = some l) (holder : r.tag = l.holder)
    (unclosed : l.win.toPos = none) :
    (s.closeFlip r n).lastRes =
      some { l with win := { l.win with toPos := some (flipTo s.params.geo r.anchor n) } } := by
  simp [State.closeFlip, last, holder, Window.closeAt, unclosed]

theorem closeHeld_reach (s : State) (r : Record) :
    ∃ track, s.closeHeld r = { s with track := track, lastRes := (s.closeHeld r).lastRes } := by
  unfold State.closeHeld
  split
  · split
    · exact closeFlip_reach s r _
    · exact ⟨_, rfl⟩
  · exact ⟨_, rfl⟩

theorem closeHeld_lastRes_other (other : ∀ l, s.lastRes = some l → l.holder ≠ r.tag) :
    (s.closeHeld r).lastRes = s.lastRes := by
  unfold State.closeHeld
  split
  · split
    · exact closeFlip_lastRes_other other
    · rfl
  · rfl

end

/-! ### The windows of the whole track -/

section
variable {s : State}

theorem foldl_closeHeld_reach (l : List Record) (s : State) :
    ∃ track, l.foldl State.closeHeld s = { s with track := track, lastRes := (l.foldl State.closeHeld s).lastRes } := by
  induction l generalizing s with
  | nil => exact ⟨_, rfl⟩
  | cons r l ih =>
    obtain ⟨track, rest⟩ := ih (s.closeHeld r)
    obtain ⟨_, first⟩ := closeHeld_reach s r
    refine ⟨track, ?_⟩
    rw [List.foldl_cons, rest, first]

theorem foldl_closeHeld_of_closed {l : List Record} (closed : ∀ r ∈ l, ∀ g, r.gate = some g → g.win.toPos ≠ none) :
    l.foldl State.closeHeld s = s := by
  induction l with
  | nil => rfl
  | cons r l ih =>
    obtain ⟨first, rest⟩ := List.forall_mem_cons.mp closed
    rw [List.foldl_cons, closeHeld_of_closed first, ih rest]

theorem foldl_closeHeld_lastRes_others {l : List Record}
    (others : ∀ r ∈ l, ∀ f, s.lastRes = some f → f.holder ≠ r.tag) :
    (l.foldl State.closeHeld s).lastRes = s.lastRes := by
  induction l generalizing s with
  | nil => rfl
  | cons r l ih =>
    obtain ⟨first, rest⟩ := List.forall_mem_cons.mp others
    have kept : (s.closeHeld r).lastRes = s.lastRes := closeHeld_lastRes_other first
    rw [List.foldl_cons, ih (by rwa [kept]), kept]

/-- While no two records share a tag, the last reservation is closed by its holder alone, on its turn in the track (R18,
R85). -/
theorem foldl_closeHeld_lastRes_holder {track : List Record} {l : FlipReservation} {r : Record} {g : GatePlan} {n : Nat}
    (distinct : (track.map fun q => q.tag).Nodup) (last : s.lastRes = some l) (mem : r ∈ track)
    (holder : r.tag = l.holder) (gate : r.gate = some g) (gateOpen : g.win.toPos = none)
    (lastOpen : l.win.toPos = none) (lp : r.lp = some n) :
    (track.foldl State.closeHeld s).lastRes =
      some { l with win := { l.win with toPos := some (flipTo s.params.geo r.anchor n) } } := by
  induction track generalizing s with
  | nil => cases mem
  | cons q track ih =>
    obtain ⟨fresh, distinct⟩ := List.nodup_cons.mp distinct
    have others : ∀ p ∈ track, q.tag ≠ p.tag := fun p mem same => fresh (List.mem_map.mpr ⟨p, mem, same.symm⟩)
    rw [List.foldl_cons]
    rcases List.mem_cons.mp mem with rfl | later
    · have closed : (s.closeHeld r).lastRes =
          some { l with win := { l.win with toPos := some (flipTo s.params.geo r.anchor n) } } := by
        rw [closeHeld_of_open gate gateOpen lp, closeFlip_lastRes_holder last holder lastOpen]
      rw [foldl_closeHeld_lastRes_others, closed]
      rintro p mem f found
      obtain rfl := Option.some.inj (closed.symm.trans found)
      exact holder ▸ others p mem
    · have kept : (s.closeHeld q).lastRes = s.lastRes := closeHeld_lastRes_other fun f found => by
        obtain rfl := Option.some.inj (last.symm.trans found)
        exact holder ▸ (others r later).symm
      rw [ih distinct (kept.trans last) later, (closeHeld_frame s q).params]

end

/-! ### The track emptied (R28, R152) -/

/-- The machine after PURGE, with the last reservation that its closed windows leave. -/
def afterPurge (s : State) (l : Option FlipReservation) : State :=
  { s.bumpBy .purged s.track.length with
    track := [], iOcc := none, rOcc := none, stallTimer := stoppedTimer, lastRes := l
    bins := Vector.ofFn fun b => { s.bins[b] with bound := 0 } }

section
variable {s : State} {t : Tally} {n : Nat}

theorem bumpBy_reaching (reaching : s.tally t < tallyMax ∧ tallyMax ≤ s.tally t + n) :
    s.bumpBy t n = (s.addTally t n).raise .super .tallySaturated := if_pos reaching

theorem bumpBy_not_reaching (other : ¬ (s.tally t < tallyMax ∧ tallyMax ≤ s.tally t + n)) :
    s.bumpBy t n = s.addTally t n := if_neg other

end

/-- A counter raised sees neither the track nor the last reservation, and keeps both (R136). -/
theorem bumpBy_with_track_lastRes (s : State) (track : List Record) (l : Option FlipReservation) (t : Tally) (n : Nat) :
    State.bumpBy { s with track := track, lastRes := l } t n =
      { s.bumpBy t n with track := track, lastRes := l } := by
  by_cases reaching : s.tally t < tallyMax ∧ tallyMax ≤ s.tally t + n
  · rw [bumpBy_reaching (s := { s with track := track, lastRes := l }) reaching, bumpBy_reaching reaching]; rfl
  · rw [bumpBy_not_reaching (s := { s with track := track, lastRes := l }) reaching, bumpBy_not_reaching reaching]; rfl

theorem bumpBy_bins (s : State) (t : Tally) (n : Nat) : (s.bumpBy t n).bins = s.bins := by
  by_cases reaching : s.tally t < tallyMax ∧ tallyMax ≤ s.tally t + n
  · rw [bumpBy_reaching reaching]; rfl
  · rw [bumpBy_not_reaching reaching]; rfl

theorem purgeTrack_eq_afterPurge (s : State) : s.purgeTrack = afterPurge s s.closeAllHeld.lastRes := by
  obtain ⟨track, reach⟩ : ∃ track, s.closeAllHeld = { s with track := track, lastRes := s.closeAllHeld.lastRes } :=
    foldl_closeHeld_reach s.track s
  rw [State.purgeTrack, reach, bumpBy_with_track_lastRes]
  simp only [State.emptyTrack, tabulate, bumpBy_bins]
  rfl

/-! ### PURGE (R152) and RESUME (R153) -/

section
variable {s : State} (x : PortId) (call : Bool)

theorem cmdPurge_jammed (jammed : s.line = .jammed) :
    cmdPurge x call s = finished (afterPurge s s.closeAllHeld.lastRes) x .done call := by
  rw [cmdPurge, if_pos jammed, purgeTrack_eq_afterPurge, complete_eq_finished]

theorem cmdPurge_refused (unjammed : s.line ≠ .jammed) : cmdPurge x call s = finished s x .wrongState call :=
  if_neg unjammed

theorem cmdResume_cleared (jammed : s.line = .jammed) (empty : s.track = []) :
    cmdResume x call s = finished { s with line := .idle } x .done call :=
  if_pos ⟨jammed, empty⟩

theorem cmdResume_refused (refused : s.line ≠ .jammed ∨ s.track ≠ []) :
    cmdResume x call s = finished s x .wrongState call :=
  if_neg (not_and_or.mpr refused)

end

section
variable {s : State} (call : Bool) (ready : Ready s .super)
include ready

theorem exec_purge : exec (.purge .super call) s = .next (cmdPurge .super call (taken s .super s.portS.ring)).settle :=
  command_of_ready (c := .purge) call ready rfl

theorem exec_resume :
    exec (.resume .super call) s = .next (cmdResume .super call (taken s .super s.portS.ring)).settle :=
  command_of_ready (c := .resume) call ready rfl

end

/-- Settles O60: both commands are taken at the ready port, which leaves the line state, the track, the parameters and
the last reservation; PURGE then differs in what the closed windows make of that reservation. -/
theorem purgeAndResumeClearTheJam : Obligations.PurgeAndResumeClearTheJam := by
  intro s call ready u emptied
  have line : u.line = s.line := taken_line s .super _
  have track : u.track = s.track := taken_track s .super _
  have lastRes : u.lastRes = s.lastRes := rfl
  have emptied_eq (l : Option FlipReservation) : afterPurge u l = emptied l := rfl
  rw [exec_purge call ready, exec_resume call ready, ← line, ← track]
  refine ⟨fun jammed closed => ?unbroken, fun l r g n jammed distinct last mem holder gate gateOpen lastOpen lp =>
    ?held, fun unjammed => ?refused, fun jammed empty => ?resumed, fun refused => ?unresumed⟩
  case unbroken =>
    have stays : u.closeAllHeld = u := foldl_closeHeld_of_closed closed
    rw [cmdPurge_jammed .super call jammed, stays, emptied_eq, lastRes]
  case held =>
    have closes : u.closeAllHeld.lastRes =
        some { l with win := { l.win with toPos := some (flipTo s.params.geo r.anchor n) } } :=
      foldl_closeHeld_lastRes_holder distinct (lastRes.trans last) mem holder gate gateOpen lastOpen lp
    rw [cmdPurge_jammed .super call jammed, closes, emptied_eq]
    rfl
  case refused => rw [cmdPurge_refused .super call unjammed]
  case resumed => rw [cmdResume_cleared .super call jammed empty]
  case unresumed => rw [cmdResume_refused .super call refused]

end Sys2Proof.Proofs
end

section
/-! PROOFS. The station ports: ABORT (R164), the notice commands (R166) and READ PARAMETER (R169). -/

namespace Sys2Proof.Proofs

open Sys2Proof.Machine
open Sys2Proof.Claims

/-! ### ABORT (R164) -/

@[simp] theorem taken_flight (s : State) (x : PortId) (ring : List Byte) : (taken s x ring).flight x = s.flight x := by
  simp [State.flight, taken]

/-- ABORT is taken at a busy port too, so only a held access keeps it from running (R161, R164). -/
theorem exec_abort {s : State} {x : PortId} (call : Bool) (quiet : (s.port x).held = none) :
    exec (.abort x call) s = .next (cmdAbort x call (taken s x (s.port x).ring)).settle := by
  have takes : (s.port x).takes (.commandWrite (cmdByte .abort call)) = true := by
    simp [Port.takes, cmdOfByte_cmdByte]
  have runs : s.access x (.commandWrite (cmdByte .abort call)) = cmdAbort x call (taken s x (s.port x).ring) := by
    rw [access_taken s x _ quiet takes]
    simp [State.takeAccess, State.takeCommand, cmdOfByte_cmdByte, callOfByte_cmdByte, allowedAt, runCmd, taken]
  exact congrArg (fun t : State => Host.Outcome.next t.settle) runs

section
variable {s : State} (x : PortId) (call : Bool)

theorem cmdAbort_idle (idle : s.flight x = none) : cmdAbort x call s = finished s x .done call := by
  simp only [cmdAbort, idle, complete_eq_finished]

theorem cmdAbort_flight {k : Flight} (flight : s.flight x = some k) :
    cmdAbort x call s = finished (abortEffect k s) x .aborted call := by
  simp only [cmdAbort, flight, complete_eq_finished]

end

section
variable {s : State}

/-- A RELEASE that waits leaves the release state NONE (R40). -/
theorem abortEffect_release_waiting (waiting : s.release = .waiting) :
    abortEffect .release s = { s with release := .none } := by
  simp only [abortEffect, waiting]

/-- A grant stands when the RELEASE behind it is aborted (R40). -/
theorem abortEffect_release_not_waiting (granted : s.release ≠ .waiting) : abortEffect .release s = s := by
  unfold abortEffect
  dsimp only
  split
  next waiting => exact absurd waiting granted
  next => rfl

/-- Only RELEASE and SWAP TRAY are undone; the other commands leave their blocks as they stand. -/
theorem abortEffect_other {k : Flight} (notRelease : k ≠ .release) (notSwap : ∀ b, k ≠ .swapTray b) :
    abortEffect k s = s := by
  cases k with
  | release => exact absurd rfl notRelease
  | swapTray b => exact absurd rfl (notSwap b)
  | drain | loadMark | readTallies | readBytes => rfl

/-- The bin of an aborted SWAP TRAY has room again for records (R131). -/
theorem abortEffect_swapTray_room {b : Bin} (room : (s.bin b).count < (s.bin b).capacity) :
    abortEffect (.swapTray b) s = s.setBin b { s.bin b with state := .available } := if_pos room

/-- The bin of an aborted SWAP TRAY enters FULL, with its notices (R129, R131). -/
theorem abortEffect_swapTray_full {b : Bin} (full : (s.bin b).capacity ≤ (s.bin b).count) :
    abortEffect (.swapTray b) s = s.enterFull b := if_neg full.not_gt

end

/-- Settles O8: the command in flight decides what ABORT undoes; the take leaves it, the release state and the bins. -/
theorem abortEndsTheCommandInFlight : Obligations.AbortEndsTheCommandInFlight := by
  intro s x call quiet u
  have flight : u.flight x = s.flight x := taken_flight s x _
  have release : u.release = s.release := taken_release s x _
  have entry (b : Bin) : u.bin b = s.bin b := taken_bin s x _ b
  rw [exec_abort call quiet, ← flight, ← release]
  simp only [← entry]
  refine ⟨fun idle => ?idle, fun busy waiting => ?waiting, fun busy granted => ?granted,
    fun k busy notRelease notSwap => ?other, fun b busy room => ?room, fun b busy full => ?full⟩
  case idle => rw [cmdAbort_idle x call idle]
  case waiting => rw [cmdAbort_flight x call busy, abortEffect_release_waiting waiting]
  case granted => rw [cmdAbort_flight x call busy, abortEffect_release_not_waiting granted]
  case other => rw [cmdAbort_flight x call busy, abortEffect_other notRelease notSwap]
  case room => rw [cmdAbort_flight x call busy, abortEffect_swapTray_room room]
  case full =>
    rw [cmdAbort_flight x call busy, abortEffect_swapTray_full full]
    rfl

/-! ### ACK NOTICE and SET NOTICE MASK (R166) -/

/-- A byte pushed after a take fills the place at the bottom that the take left free (R160). -/
theorem ringPushAll_singleton_append (f b : Byte) (rest : List Byte) : ringPushAll [f] (rest ++ [b]) = f :: rest := by
  simp [ringPushAll, ringPush]

section
variable {s : State} (x : PortId) (call : Bool) (m : Byte) (rest : List Byte)

theorem cmdAckNotice_taken :
    cmdAckNotice x call (taken s x (m :: rest)) =
      finished (s.setPort x
        { s.port x with ring := (s.port x).flags :: rest, flags := (s.port x).flags &&& ~~~m }) x .done call := by
  rw [cmdAckNotice, dropOperand_taken]
  simp [State.push, taken, finished, State.complete, Port.complete, ringTop,
    ringPushAll_singleton_append]

theorem cmdSetNoticeMask_taken :
    cmdSetNoticeMask x call (taken s x (m :: rest)) =
      finished (s.setPort x { s.port x with ring := rest ++ [0], mask := m }) x .done call := by
  rw [cmdSetNoticeMask, dropOperand_taken]
  simp [taken, finished, State.complete, Port.complete, ringTop]

end

section
variable {s : State} {x : PortId} (call : Bool) (ready : Ready s x)
include ready

theorem exec_ackNotice :
    exec (.ackNotice x call) s = .next (cmdAckNotice x call (taken s x (s.port x).ring)).settle :=
  command_of_ready (c := .ackNotice) call ready rfl

theorem exec_setNoticeMask :
    exec (.setNoticeMask x call) s = .next (cmdSetNoticeMask x call (taken s x (s.port x).ring)).settle :=
  command_of_ready (c := .setNoticeMask) call ready rfl

end

/-- Settles O9: both commands are taken at the ready port, their mask byte from the top of its ring. The completion
asserts the line xDONE that the take cleared (R163). -/
theorem noticeCommandsWorkFlagsAndMask : Obligations.NoticeCommandsWorkFlagsAndMask := by
  intro s x call m rest ready ring
  rw [exec_ackNotice call ready, exec_setNoticeMask call ready, ring]
  refine ⟨?ack, ?mask⟩
  case ack => rw [cmdAckNotice_taken]
  case mask => rw [cmdSetNoticeMask_taken]

/-! ### READ PARAMETER (R169) -/

theorem bytes2_eq_twoBytes (n : Nat) : bytes2 n = twoBytes n := by
  have low : byteOf n = BitVec.ofNat 8 (n % 256) := BitVec.eq_of_toNat_eq (by simp [byteOf])
  rw [bytes2, low]
  rfl

/-- What the model reads for a parameter is the stored value, group by group (11.9, R133). -/
theorem readParam_eq_stored (s : State) (p : ParamId) : s.readParam p = stored s p := by
  cases p with
  | geo g => cases g <;> rfl
  | det k d => cases k <;> cases d <;> rfl
  | mPre | recovery | stallLimit | interval => rfl
  | capacity b => cases b <;> rfl

theorem readParam_taken (s : State) (x : PortId) (ring : List Byte) (p : ParamId) :
    (taken s x ring).readParam p = s.readParam p := by
  have params : (taken s x ring).params = s.params := by simp [taken]
  cases p <;> simp [State.readParam, params]

theorem bytes2_readParam_taken (s : State) (x : PortId) (ring : List Byte) (p : ParamId) :
    bytes2 ((taken s x ring).readParam p) = twoBytes (stored s p) := by
  rw [readParam_taken, readParam_eq_stored, bytes2_eq_twoBytes]

section
variable {s : State} {id : Byte} {rest : List Byte} (x : PortId) (call : Bool)

theorem cmdReadParameter_bad (bad : paramOfNat id.toNat = none) :
    cmdReadParameter x call (taken s x (id :: rest)) = finished (taken s x (rest ++ [0])) x .badOperand call := by
  simp only [cmdReadParameter, operand_taken, dropOperand_taken, bad, complete_eq_finished]

theorem cmdReadParameter_named {p : ParamId} (named : paramOfNat id.toNat = some p) (whole : (id :: rest).length = 24) :
    cmdReadParameter x call (taken s x (id :: rest)) =
      finished (taken s x (pushed (twoBytes (stored s p)) (rest ++ [0]))) x .done call := by
  have length : (rest ++ [0]).length = 24 := by simpa using whole
  simp only [cmdReadParameter, operand_taken, dropOperand_taken, named, bytes2_readParam_taken,
    push_taken s x _ _ length, complete_eq_finished]

end

theorem exec_readParameter {s : State} (call : Bool) (ready : Ready s .super) :
    exec (.readParameter .super call) s = .next (cmdReadParameter .super call (taken s .super s.portS.ring)).settle :=
  command_of_ready (c := .readParameter) call ready rfl

/-- Settles O52: the identifier names a parameter or none; the line state plays no part. -/
theorem readParameterPushesTheStoredValue : Obligations.ReadParameterPushesTheStoredValue := by
  intro s call id rest ready ring
  rw [exec_readParameter call ready, ring]
  obtain ⟨-, -, (whole : s.portS.ring.length = 24)⟩ := ready
  rw [ring] at whole
  refine ⟨fun bad => ?refused, fun p named => ?reported⟩
  case refused => rw [cmdReadParameter_bad .super call bad]
  case reported => rw [cmdReadParameter_named .super call named whole]

end Sys2Proof.Proofs
end

section
/-! PROOFS. Footprints: which parts of the state each operation of the model can change. `Only fs s t` says that `t`
differs from `s` in the parts `fs` at most. A part is a field, a field of a port or a view of the track; each operation's
footprint is stated once, and frames and invariants are read off it. -/

-- The proofs are elaborated one after another: the check gives each thread a large stack within a fixed memory.
set_option Elab.async false

namespace Sys2Proof.Proofs

open Sys2Proof.Machine
open Sys2Proof.Claims

/-! ### Parts of the state -/

/-- The parts of the state. The track is seen whole and in three views: its tags, its routes (tag, next checkpoint and bin
of each record) and its stages (with the next checkpoint). -/
inductive Part where
  | pos | cells | iOcc | rOcc | stallTimer | nextTag | release | gap | training | baselines | read | params | gateOut
  | lastRes | head (h : HeadId) | store | sort | bins | gates | live | snapshot | throughput | line | jamCause | jamCell
  | resetCause | resetLevel | freeCount | pending
  | track | tags | routes | stages
  | ring (x : PortId) | flight (x : PortId) | code (x : PortId) | xdone (x : PortId) | xcall (x : PortId)
  | flags (x : PortId) | mask (x : PortId) | held (x : PortId) | out (x : PortId)

def tagsOf (l : List Record) : List Tag := l.map fun r => r.tag

/-- A record's tag, next checkpoint and bin. -/
abbrev Route := Tag × Option Cell × Option Bin

def routesOf (l : List Record) : List Route := l.map fun r => (r.tag, r.next, r.bin)

def stagesOf (l : List Record) : List (Stage × Option Cell) := l.map fun r => (r.stage, r.next)

/-- A part is the same in two states. -/
def Part.Same (s t : State) : Part → Prop
  | .pos => t.pos = s.pos
  | .cells => t.cells = s.cells
  | .iOcc => t.iOcc = s.iOcc
  | .rOcc => t.rOcc = s.rOcc
  | .stallTimer => t.stallTimer = s.stallTimer
  | .nextTag => t.nextTag = s.nextTag
  | .release => t.release = s.release
  | .gap => t.gap = s.gap
  | .training => t.training = s.training
  | .baselines => t.baselines = s.baselines
  | .read => t.read = s.read
  | .params => t.params = s.params
  | .gateOut => t.gateOut = s.gateOut
  | .lastRes => t.lastRes = s.lastRes
  | .head h => t.head h = s.head h
  | .store => t.store = s.store
  | .sort => t.sort = s.sort
  | .bins => t.bins = s.bins
  | .gates => t.gates = s.gates
  | .live => t.live = s.live
  | .snapshot => t.snapshot = s.snapshot
  | .throughput => t.throughput = s.throughput
  | .line => t.line = s.line
  | .jamCause => t.jamCause = s.jamCause
  | .jamCell => t.jamCell = s.jamCell
  | .resetCause => t.resetCause = s.resetCause
  | .resetLevel => t.resetLevel = s.resetLevel
  | .freeCount => t.freeCount = s.freeCount
  | .pending => t.pending = s.pending
  | .track => t.track = s.track
  | .tags => tagsOf t.track = tagsOf s.track
  | .routes => routesOf t.track = routesOf s.track
  | .stages => stagesOf t.track = stagesOf s.track
  | .ring x => (t.port x).ring = (s.port x).ring
  | .flight x => (t.port x).inFlight = (s.port x).inFlight
  | .code x => (t.port x).code = (s.port x).code
  | .xdone x => (t.port x).xdone = (s.port x).xdone
  | .xcall x => (t.port x).xcall = (s.port x).xcall
  | .flags x => (t.port x).flags = (s.port x).flags
  | .mask x => (t.port x).mask = (s.port x).mask
  | .held x => (t.port x).held = (s.port x).held
  | .out x => (t.port x).out = (s.port x).out

/-- `t` differs from `s` in the parts `fs` at most. -/
def Only (fs : List Part) (s t : State) : Prop := ∀ p, p ∉ fs → p.Same s t

theorem Part.Same.refl (s : State) (p : Part) : p.Same s s := by cases p <;> exact rfl

theorem Part.Same.trans {s t u : State} {p : Part} (st : p.Same s t) (tu : p.Same t u) : p.Same s u := by
  cases p <;> exact Eq.trans tu st

theorem Only.refl (fs : List Part) (s : State) : Only fs s s := fun p _ => Part.Same.refl s p

theorem Only.trans {fs gs : List Part} {s t u : State} (st : Only fs s t) (tu : Only gs t u) : Only (fs ++ gs) s u :=
  fun p out => (st p fun mem => out (List.mem_append_left gs mem)).trans (tu p fun mem => out (List.mem_append_right fs mem))

theorem Only.mono {fs gs : List Part} {s t : State} (st : Only fs s t) (sub : ∀ p ∈ fs, p ∈ gs) : Only gs s t :=
  fun p out => st p fun mem => out (sub p mem)

/-- Two states with every part the same are equal. -/
theorem eq_of_parts {s t : State} (same : ∀ p : Part, p.Same s t) : t = s := by
  have port {p q : Port} (ring : q.ring = p.ring) (flight : q.inFlight = p.inFlight) (code : q.code = p.code)
      (xdone : q.xdone = p.xdone) (xcall : q.xcall = p.xcall) (flags : q.flags = p.flags) (mask : q.mask = p.mask)
      (held : q.held = p.held) (out : q.out = p.out) : q = p := by
    cases p; cases q; simp_all
  have ports (x : PortId) : t.port x = s.port x :=
    port (same (.ring x)) (same (.flight x)) (same (.code x)) (same (.xdone x)) (same (.xcall x)) (same (.flags x))
      (same (.mask x)) (same (.held x)) (same (.out x))
  have feed : t.portF = s.portF := ports .feed
  have print : t.portP = s.portP := ports .print
  have super : t.portS = s.portS := ports .super
  have high : t.headHigh = s.headHigh := same (.head .high)
  have low : t.headLow = s.headLow := same (.head .low)
  have rest := And.intro (same .pos) <| And.intro (same .cells) <| And.intro (same .iOcc) <| And.intro (same .rOcc) <|
    And.intro (same .stallTimer) <| And.intro (same .track) <| And.intro (same .nextTag) <| And.intro (same .release) <|
    And.intro (same .gap) <| And.intro (same .training) <| And.intro (same .baselines) <| And.intro (same .read) <|
    And.intro (same .params) <| And.intro (same .gateOut) <| And.intro (same .lastRes) <| And.intro (same .store) <|
    And.intro (same .sort) <| And.intro (same .bins) <| And.intro (same .gates) <| And.intro (same .live) <|
    And.intro (same .snapshot) <| And.intro (same .throughput) <| And.intro (same .line) <| And.intro (same .jamCause) <|
    And.intro (same .jamCell) <| And.intro (same .resetCause) <| And.intro (same .resetLevel) <|
    And.intro (same .freeCount) (same .pending)
  cases s; cases t
  simp_all [Part.Same]

/-! ### Updates of one part -/

section
variable (s : State)

theorem setPort_only (fs : List Part) (x : PortId) (p : Port)
    (ring : .ring x ∈ fs ∨ p.ring = (s.port x).ring := by simp)
    (flight : .flight x ∈ fs ∨ p.inFlight = (s.port x).inFlight := by simp)
    (code : .code x ∈ fs ∨ p.code = (s.port x).code := by simp)
    (xdone : .xdone x ∈ fs ∨ p.xdone = (s.port x).xdone := by simp)
    (xcall : .xcall x ∈ fs ∨ p.xcall = (s.port x).xcall := by simp)
    (flags : .flags x ∈ fs ∨ p.flags = (s.port x).flags := by simp)
    (mask : .mask x ∈ fs ∨ p.mask = (s.port x).mask := by simp)
    (held : .held x ∈ fs ∨ p.held = (s.port x).held := by simp)
    (out : .out x ∈ fs ∨ p.out = (s.port x).out := by simp) : Only fs s (s.setPort x p) := by
  intro q absent
  have atPort {α : Type} (get : Port → α) (y : PortId) (same : y = x → get p = get (s.port x)) :
      get ((s.setPort x p).port y) = get (s.port y) := by
    by_cases named : y = x
    · subst named; simpa using same rfl
    · rw [State.setPort_port_ne _ _ named]
  cases q
  case ring y => exact atPort Port.ring y fun e => ring.resolve_left (e ▸ absent)
  case flight y => exact atPort Port.inFlight y fun e => flight.resolve_left (e ▸ absent)
  case code y => exact atPort Port.code y fun e => code.resolve_left (e ▸ absent)
  case xdone y => exact atPort Port.xdone y fun e => xdone.resolve_left (e ▸ absent)
  case xcall y => exact atPort Port.xcall y fun e => xcall.resolve_left (e ▸ absent)
  case flags y => exact atPort Port.flags y fun e => flags.resolve_left (e ▸ absent)
  case mask y => exact atPort Port.mask y fun e => mask.resolve_left (e ▸ absent)
  case held y => exact atPort Port.held y fun e => held.resolve_left (e ▸ absent)
  case out y => exact atPort Port.out y fun e => out.resolve_left (e ▸ absent)
  all_goals simp [Part.Same]

theorem setHead_only (h : HeadId) (d : Head) : Only [.head h] s (s.setHead h d) := by
  intro q absent
  cases q
  case head k => exact State.setHead_head_ne s d fun e => absent (by simp [e])
  all_goals simp [Part.Same]

theorem setBin_only (b : Bin) (e : BinEntry) : Only [.bins] s (s.setBin b e) := by
  intro q absent
  cases q <;> simp_all [Part.Same]

theorem setGate_only (k : Fin 6) (g : TrayGate) : Only [.gates] s (s.setGate k g) := by
  intro q absent
  cases q <;> simp_all [Part.Same]

theorem setSlot_only (n : Fin 4) (m : Slot) : Only [.store] s (s.setSlot n m) := by
  intro q absent
  cases q <;> simp_all [Part.Same]

theorem setLevel_only (x : Cell) (l : Level) : Only [.cells] s (s.setLevel x l) := by
  intro q absent
  cases q <;> simp_all [Part.Same]

theorem addTally_only (t : Tally) (n : Nat) : Only [.live] s (s.addTally t n) := by
  intro q absent
  cases q <;> simp_all [Part.Same]

end

end Sys2Proof.Proofs
end

section
/-! PROOFS. The footprints of the operations of the transport blocks, in the order of the model. -/

-- The proofs are elaborated one after another: the check gives each thread a large stack within a fixed memory.
set_option Elab.async false

namespace Sys2Proof.Proofs

open Sys2Proof.Machine
open Sys2Proof.Claims

/-- A footprint within another, the difference settled by listing the parts. -/
theorem Only.within {fs gs : List Part} {s t : State} (st : Only fs s t) (sub : ∀ p ∈ fs, p ∈ gs := by simp) :
    Only gs s t := st.mono sub

/-! ### Footprints of the shared operations -/

/-- What a counter that rises can change. -/
abbrev countParts : List Part := [.live, .flags .super]

/-- What a command that ends can change at its port. -/
abbrev endParts (x : PortId) : List Part := [.flight x, .code x, .xdone x, .xcall x]

/-- What an update of the track can change. -/
abbrev trackParts : List Part := [.track, .tags, .routes, .stages]

section
variable (s : State)

theorem raise_only (x : PortId) (n : Notice) : Only [.flags x] s (s.raise x n) := by
  unfold State.raise
  split
  · exact Only.refl _ s
  · exact setPort_only s _ x _

theorem bumpBy_only (t : Tally) (n : Nat) : Only countParts s (s.bumpBy t n) := by
  unfold State.bumpBy
  split
  · exact (addTally_only s t n).trans (raise_only _ _ _)
  · exact (addTally_only s t n).within

theorem bump_only (t : Tally) : Only countParts s (s.bump t) := bumpBy_only s t 1

theorem bumpIf_only (t : Option Tally) : Only countParts s (s.bumpIf t) := by
  cases t with
  | none => exact Only.refl _ s
  | some t => exact bump_only s t

theorem complete_only (x : PortId) (call : Bool) (c : Code) : Only (endParts x) s (s.complete x call c) :=
  setPort_only s _ x { s.port x with inFlight := none, code := c, xdone := true, xcall := call }

theorem completeFlight_only (x : PortId) (c : Code) : Only (endParts x) s (s.completeFlight x c) := by
  unfold State.completeFlight
  split
  · exact Only.refl _ s
  · exact complete_only s x _ c

theorem takeOff_only (x : PortId) (call : Bool) (k : Flight) : Only [.flight x] s (s.takeOff x call k) :=
  setPort_only s _ x _

theorem setFlight_only (x : PortId) (k : Flight) : Only [.flight x] s (s.setFlight x k) := setPort_only s _ x _

theorem map_updTrack {α : Type} (g : Record → α) (t : Tag) (f : Record → Record) (l : List Record)
    (kept : ∀ r, g (f r) = g r) : (updTrack t f l).map g = l.map g := by
  rw [updTrack_eq_map, List.map_map]
  exact List.map_congr_left fun r _ => by by_cases h : r.tag = t <;> simp [h, kept]

theorem updRec_only (fs : List Part) (t : Tag) (f : Record → Record) (track : .track ∈ fs := by simp)
    (tags : .tags ∈ fs ∨ ∀ r, (f r).tag = r.tag := by simp)
    (routes : .routes ∈ fs ∨ ∀ r, ((f r).tag, (f r).next, (f r).bin) = (r.tag, r.next, r.bin) := by simp)
    (stages : .stages ∈ fs ∨ ∀ r, ((f r).stage, (f r).next) = (r.stage, r.next) := by simp) :
    Only fs s (s.updRec t f) := by
  intro q absent
  cases q
  case track => exact absurd track absent
  case tags => exact map_updTrack _ t f s.track (tags.resolve_left absent)
  case routes => exact map_updTrack _ t f s.track (routes.resolve_left absent)
  case stages => exact map_updTrack _ t f s.track (stages.resolve_left absent)
  all_goals rfl

theorem setMark_only (t : Tag) (m : Mark) : Only [.track] s (s.setMark t m) := updRec_only s _ t _

theorem setLast_only (l : Option FlipReservation) : Only [.lastRes] s { s with lastRes := l } := by
  intro q absent
  cases q
  case lastRes => exact absurd (by simp) absent
  all_goals rfl

theorem setRead_only (r : ReadState) : Only [.read] s { s with read := r } := by
  intro q absent
  cases q
  case read => exact absurd (by simp) absent
  all_goals rfl

theorem setGateOut_only (g : Setting) : Only [.gateOut] s { s with gateOut := g } := by
  intro q absent
  cases q
  case gateOut => exact absurd (by simp) absent
  all_goals rfl

theorem setRelease_only (r : ReleaseState) : Only [.release] s { s with release := r } := by
  intro q absent
  cases q
  case release => exact absurd (by simp) absent
  all_goals rfl

theorem setThroughput_only (t : Throughput) : Only [.throughput] s { s with throughput := t } := by
  intro q absent
  cases q
  case throughput => exact absurd (by simp) absent
  all_goals rfl

theorem setTimer_only (t : StallTimer) : Only [.stallTimer] s { s with stallTimer := t } := by
  intro q absent
  cases q
  case stallTimer => exact absurd (by simp) absent
  all_goals rfl

theorem setLine_only (l : LineState) : Only [.line] s { s with line := l } := by
  intro q absent
  cases q
  case line => exact absurd (by simp) absent
  all_goals rfl

theorem setTraining_only (v : Vector Nat 8) : Only [.training] s { s with training := v } := by
  intro q absent
  cases q
  case training => exact absurd (by simp) absent
  all_goals rfl

theorem setROcc_only (o : Option Tag) : Only [.rOcc] s { s with rOcc := o } := by
  intro q absent
  cases q
  case rOcc => exact absurd (by simp) absent
  all_goals rfl

theorem afterRemoval_only : Only [.stallTimer] s s.afterRemoval := by
  unfold State.afterRemoval
  split
  · exact setTimer_only s _
  · exact Only.refl _ s

/-! ### Stacker -/

theorem stepGates_only : Only [.gates] s s.stepGates := by
  intro q absent
  cases q
  case gates => exact absurd (by simp) absent
  all_goals rfl

theorem enterFull_only (b : Bin) : Only [.bins, .flags .super, .flags .feed] s (s.enterFull b) := by
  have full := (setBin_only s b { s.bin b with state := .full }).trans (raise_only _ .super .trayFull)
  unfold State.enterFull
  dsimp only
  split
  · exact (full.trans (raise_only _ .feed .trayFullEnd)).within
  · exact full.within

theorem addGateWindow_only (b : Bin) (t : Tag) (a : Pos) (lp : Option Nat) :
    Only [.gates] s (s.addGateWindow b t a lp) := by
  cases b with
  | endTray => exact Only.refl _ s
  | tray k => exact setGate_only s k _

theorem bind_only (t : Tag) (a : Pos) (lp : Option Nat) (e : SortEntry) :
    Only [.bins, .track, .routes, .gates] s (s.bind t a lp e) :=
  (((setBin_only s _ _).trans (updRec_only _ [.track, .routes] t _)).trans (addGateWindow_only _ _ t a lp)).within

theorem closeGateWindow_only (r : Record) (n : Nat) : Only [.gates] s (s.closeGateWindow r n) := by
  unfold State.closeGateWindow
  split
  · exact setGate_only s _ _
  · exact Only.refl _ s

theorem moveGateWindow_only (r : Record) (d : Pos) : Only [.gates] s (s.moveGateWindow r d) := by
  unfold State.moveGateWindow
  split
  · exact setGate_only s _ _
  · exact Only.refl _ s

theorem holdGate_only (b : Bin) (t : Tag) : Only [.gates] s (s.holdGate b t) := by
  cases b with
  | endTray => exact Only.refl _ s
  | tray k => exact setGate_only s k _

theorem countArrival_only (b : Bin) (t : Tag) :
    Only [.bins, .live, .flags .super, .gates, .flags .feed] s (s.countArrival b t) := by
  have counted (e : BinEntry) :=
    (((setBin_only s b e).trans (bump_only _ (.arrivals b))).trans (bump_only _ .exited)).trans (holdGate_only _ b t)
  unfold State.countArrival
  dsimp only
  split
  · exact ((counted _).trans (enterFull_only _ b)).within
  · exact (counted _).within

theorem endSwap_only (b : Bin) : Only [.bins, .flags .super, .flags .feed] s (s.endSwap b) := by
  unfold State.endSwap
  split
  · exact (setBin_only s b _).within
  · exact enterFull_only s b

theorem setCapacity_only (b : Bin) (v : Nat) : Only [.bins, .flags .super, .flags .feed] s (s.setCapacity b v) := by
  unfold State.setCapacity
  dsimp only
  split
  · exact ((setBin_only s b _).trans (enterFull_only _ b)).within
  · split
    · exact ((setBin_only s b _).trans (setBin_only _ b _)).within
    · exact (setBin_only s b _).within

/-! ### Cancel unit -/

theorem countDone_only (r : Reservation) : Only (.track :: countParts) s (s.countDone r) := by
  unfold State.countDone
  dsimp only
  split
  · exact Only.refl _ s
  · split
    · exact ((bump_only s .cancelled).trans (setMark_only _ _ _)).within
    · exact (bump_only s .cancelled).within

theorem stepHead_only (h : HeadId) : Only (.head h :: .track :: countParts) s (s.stepHead h) := by
  unfold State.stepHead
  dsimp only
  split
  · exact (setHead_only s h _).within
  · split
    · exact (setHead_only s h _).within
    · exact (setHead_only s h _).within
    · exact (setHead_only s h _).within
    · split
      · exact ((countDone_only s _).trans (setHead_only _ h _)).within
      · exact (setHead_only s h _).within

theorem stepHeads_only : Only (.head .high :: .head .low :: .track :: countParts) s s.stepHeads :=
  ((stepHead_only s .high).trans (stepHead_only _ .low)).within

theorem giveUp_only (t : Tag) (r : Reason) : Only (.track :: countParts) s (s.giveUp t r) :=
  (setMark_only s t _).trans (bump_only _ _)

theorem conflictMark_only (t : Tag) : Only (.flags .print :: .track :: countParts) s (s.conflictMark t) :=
  (((setMark_only s t _).trans (bump_only _ _)).trans (raise_only _ .print _)).within

/-- What the answer to a wanted mark can change, besides the mark store (R97). -/
abbrev markParts (h : HeadId) : List Part := [.head h, .track, .flags .print, .live, .flags .super]

theorem scheduleMark_only (h : HeadId) (t : Tag) (r : Reservation) : Only (markParts h) s (s.scheduleMark h t r) := by
  unfold State.scheduleMark
  split
  · exact (conflictMark_only s t).within
  · exact ((setHead_only s h _).trans (setMark_only _ t _)).within

theorem requestMark_only (q : MarkRequest) : Only (.store :: markParts (headFor q.facing)) s (s.requestMark q) := by
  have adopted := setSlot_only s q.slot s.store[q.slot].adopt
  unfold State.requestMark
  dsimp only
  split
  · exact (adopted.trans (giveUp_only _ _ _)).within
  · split
    · exact ((adopted.trans (giveUp_only _ _ _)).trans (raise_only _ .print _)).within
    · split
      · exact ((adopted.trans (giveUp_only _ _ _)).trans (raise_only _ .print _)).within
      · exact (adopted.trans (scheduleMark_only _ _ _ _)).within

/-- What can change of both heads, the marks and their counters. -/
abbrev markingParts : List Part := [.head .high, .head .low, .track, .flags .print, .live, .flags .super]

theorem markParts_sub (h : HeadId) : ∀ p ∈ markParts h, p ∈ markingParts := by cases h <;> simp

theorem moveMark_only (r : Record) (d : Pos) : Only markingParts s (s.moveMark r d) := by
  unfold State.moveMark
  split
  next h _ =>
    have moved := setHead_only s h ((s.head h).reAnchor r.tag d).1
    dsimp only
    split
    · exact ((moved.trans (conflictMark_only _ r.tag)).within (gs := markParts h)).mono (markParts_sub h)
    · exact (moved.within (gs := markParts h)).mono (markParts_sub h)
  next => exact Only.refl _ s

theorem departMark_only (r : Record) :
    Only [.head .high, .head .low, .flags .print, .live, .flags .super] s (s.departMark r) := by
  unfold State.departMark
  split
  next h _ =>
    have left := setHead_only s h ((s.head h).depart r.tag).1
    dsimp only
    split
    · refine ((left.trans (bump_only _ _)).trans (raise_only _ .print _)).mono ?_
      cases h <;> simp
    · refine left.mono ?_
      cases h <;> simp
  next => exact Only.refl _ s

theorem outcome_only (r : Reservation) (m : Mark) : Only [.track] s (s.outcome r m) := by
  unfold State.outcome
  split
  · exact setMark_only s _ _
  · exact Only.refl _ s

theorem settleUnbegun_only (byJam : Bool) (r : Reservation) : Only (.track :: countParts) s (s.settleUnbegun byJam r) := by
  unfold State.settleUnbegun
  split
  · exact Only.refl _ s
  · split
    · exact (outcome_only s r _).within
    · exact (outcome_only s r _).trans (bump_only _ _)

theorem settleActive_only (byJam : Bool) (st : HeadState) (r : Reservation) :
    Only (.flags .print :: .track :: countParts) s (s.settleActive byJam st r) := by
  unfold State.settleActive
  split
  · exact Only.refl _ s
  · split
    · dsimp only
      split
      · exact ((outcome_only s r _).trans (bump_only _ _)).within
      · exact (((outcome_only s r _).trans (bump_only _ _)).trans (raise_only _ .print _)).within
    · exact ((outcome_only s r _).trans (bump_only _ _)).within
    · exact (settleUnbegun_only s byJam r).within

/-- A jam raises no notice of its own for the marks it ends (R107). -/
theorem settleActive_jam_only (st : HeadState) (r : Reservation) :
    Only (.track :: countParts) s (s.settleActive true st r) := by
  unfold State.settleActive
  split
  · exact Only.refl _ s
  · split
    · exact (outcome_only s r _).trans (bump_only _ _)
    · exact (outcome_only s r _).trans (bump_only _ _)
    · exact settleUnbegun_only s true r

theorem settleSlot_only {fs : List Part} {f : State → Reservation → State} (each : ∀ s r, Only fs s (f s r))
    (o : Option Reservation) : Only fs s (s.settleSlot f o) := by
  cases o with
  | none => exact Only.refl fs s
  | some r => exact each s r

theorem settleHead_only (byJam : Bool) (h : HeadId) :
    Only (.flags .print :: .track :: countParts) s (s.settleHead byJam h) :=
  ((settleSlot_only s (fun s r => settleActive_only s byJam (_) r) _).trans
    (settleSlot_only _ (fun s r => settleUnbegun_only s byJam r) _)).within

theorem settleHead_jam_only (h : HeadId) : Only (.track :: countParts) s (s.settleHead true h) :=
  ((settleSlot_only s (fun s r => settleActive_jam_only s (_) r) _).trans
    (settleSlot_only _ (fun s r => settleUnbegun_only s true r) _)).within

theorem jamHead_only (h : HeadId) : Only (.head h :: .track :: countParts) s (s.jamHead h) :=
  ((settleHead_jam_only s h).trans (setHead_only _ h _)).within

theorem takeOffline_only (h : HeadId) : Only (markParts h) s (s.takeOffline h) := by
  unfold State.takeOffline
  split
  · exact Only.refl _ s
  · exact ((settleHead_only s false h).trans (setHead_only _ h _)).within

theorem takeOnline_only (h : HeadId) : Only [.head h] s (s.takeOnline h) := by
  unfold State.takeOnline
  split
  · exact setHead_only s h _
  · exact Only.refl _ s

/-! ### Facing planner -/

theorem driveGate_only (g : GatePlan) : Only [.gateOut] s (s.driveGate g) := by
  unfold State.driveGate
  split
  · exact setGateOut_only s _
  · exact Only.refl _ s

theorem planMark_only (t : Tag) (a : Pos) (k : Classified) (g : GatePlan) (c : Bool) (e : SortEntry) (lp : Nat) :
    Only (.store :: markingParts) s (s.planMark t a k g c e lp) := by
  unfold State.planMark
  split
  · split
    next o _ _ _ =>
      refine (requestMark_only s _).mono fun p mem => ?_
      rcases List.mem_cons.mp mem with first | rest
      · simp [first]
      · exact List.mem_cons_of_mem _ (markParts_sub _ p rest)
    next => exact (setMark_only s t _).within
  · exact (setMark_only s t _).within

theorem planFacing_only (t : Tag) (k : Classified) (g : GatePlan) (c : Bool) :
    Only (.lastRes :: .track :: countParts) s (s.planFacing t k g c) :=
  ((((bump_only s (.cls k.cls)).trans (bumpIf_only _ _)).trans (setLast_only _ _)).trans
    (updRec_only _ [.track] t _)).within

/-- What a plan can change (R73). -/
abbrev planParts : List Part :=
  [.head .high, .head .low, .track, .flags .print, .live, .flags .super, .store, .lastRes, .bins, .routes, .gates, .stages,
    .gateOut]

theorem plan_only (t : Tag) (v : Verdict) : Only planParts s (s.plan t v) := by
  unfold State.plan
  split
  · exact Only.refl _ s
  · exact (((((planFacing_only s t _ _ _).trans (planMark_only _ _ _ _ _ _ _ _)).trans (bind_only _ _ _ _ _)).trans
      (updRec_only _ [.track, .stages] t _)).trans (driveGate_only _ _)).within

theorem stepFlip_only : Only [.gateOut] s s.stepFlip := by
  unfold State.stepFlip
  split
  · split
    · exact Only.refl _ s
    · split
      · exact Only.refl _ s
      · exact setGateOut_only s _
  · exact Only.refl _ s

theorem retire_only : Only [.lastRes] s s.retire := by
  unfold State.retire
  split
  · exact Only.refl _ s
  · split
    · exact setLast_only s none
    · exact Only.refl _ s

theorem closeFlip_only (r : Record) (n : Nat) : Only [.track, .lastRes] s (s.closeFlip r n) := by
  have closed (f : Record → Option GatePlan) :=
    updRec_only s [.track] r.tag fun q => { q with gate := f q }
  unfold State.closeFlip
  dsimp only
  split
  · exact (closed _).within
  · split
    · exact (closed _).trans (setLast_only _ _)
    · exact (closed _).within

theorem moveFlip_only (r : Record) (d : Pos) : Only [.track, .lastRes] s (s.moveFlip r d) := by
  have moved (f : Record → Option GatePlan) :=
    updRec_only s [.track] r.tag fun q => { q with gate := f q }
  unfold State.moveFlip
  split
  · exact Only.refl _ s
  · dsimp only
    split
    · exact (moved _).within
    · split
      · split
        · exact (moved _).trans (setLast_only _ _)
        · exact (moved _).trans (setLast_only _ _)
      · exact (moved _).within

/-! ### Stamp reader -/

theorem startRead_only (t : Tag) : Only [.read, .rOcc, .track, .stages] s (s.startRead t) :=
  ((updRec_only s [.track, .stages] t fun r => { r with stage := .reading }).trans
    ((setROcc_only _ (some t)).trans (setRead_only _ _))).within

theorem writeFindings_only (t : Tag) (ch : Vector Channel 8) : Only (.track :: countParts) s (s.writeFindings t ch) := by
  have written := updRec_only s [.track] t fun r => { r with findings := some (findingsOf ch) }
  unfold State.writeFindings
  dsimp only
  split
  · exact written.trans (bump_only _ _)
  · exact written.within

theorem readSample_only (r : Reading) (ch : Vector Channel 8) (z : Samples) : Only [.read] s (s.readSample r ch z) := by
  unfold State.readSample
  dsimp only
  split <;> exact setRead_only s _

theorem abandonRead_only (r : Reading) (ch : Vector Channel 8) : Only (.read :: planParts) s (s.abandonRead r ch) :=
  (((writeFindings_only s _ _).trans (setRead_only _ _)).trans (plan_only _ _ _)).within

theorem completeRead_only (r : Reading) (ch : Vector Channel 8) : Only (.read :: planParts) s (s.completeRead r ch) :=
  ((((updRec_only s [.track] r.tag fun q => { q with lp := some r.count }).trans (writeFindings_only _ _ _)).trans
    (setRead_only _ _)).trans (plan_only _ _ _)).within

theorem closeWindows_only (t : Tag) (n : Nat) : Only [.track, .lastRes, .gates] s (s.closeWindows t n) := by
  unfold State.closeWindows
  split
  · exact Only.refl _ s
  · exact (closeFlip_only s _ _).trans (closeGateWindow_only _ _ _)

theorem completeOverrun_only (r : Reading) : Only [.read, .track, .lastRes, .gates] s (s.completeOverrun r) :=
  (((updRec_only s [.track] r.tag fun q => { q with lp := some r.count }).trans (setRead_only _ _)).trans
    (closeWindows_only _ _ _)).within

theorem leaveRead_only (t : Tag) : Only [.read, .track, .lastRes, .gates] s (s.leaveRead t) := by
  unfold State.leaveRead
  split
  · split
    · exact (setRead_only s _).within
    · exact Only.refl _ s
  · split
    · exact (setRead_only s _).trans (closeWindows_only _ _ _)
    · exact Only.refl _ s
  · exact Only.refl _ s

theorem jamRead_only : Only [.track, .read] s s.jamRead := by
  have fixed (r : Reading) := (updRec_only s [.track] r.tag fun q => { q with lp := some r.count }).trans (setRead_only _ .idle)
  unfold State.jamRead
  split
  · exact fixed _
  · exact fixed _
  · exact Only.refl _ s

theorem train_only (z : Samples) : Only [.baselines, .training, .flags .feed] s (s.train z) := by
  have trained (b t : Vector Nat 8) : Only [.baselines, .training] s { s with baselines := b, training := t } := by
    intro q absent
    cases q
    case baselines | training => exact absurd (by simp) absent
    all_goals rfl
  unfold State.train
  dsimp only
  split
  · exact (trained _ _).trans (raise_only _ .feed _)
  · exact (trained _ _).within

theorem useSamples_only (l : LineState) (z : Samples) :
    Only [.baselines, .training, .flags .feed, .read] s (s.useSamples l z) := by
  unfold State.useSamples
  split
  · split
    · exact (train_only s z).within
    · exact Only.refl _ s
  · split
    · split
      · exact (readSample_only s _ _ z).within
      · exact (setRead_only s _).within
      · exact Only.refl _ s
    · exact Only.refl _ s

/-! ### Checkpoint unit -/

theorem jamInduction_only : Only (.release :: endParts .feed) s s.jamInduction := by
  have dropped := setRelease_only s .none
  unfold State.jamInduction
  dsimp only
  split
  · exact dropped.trans (completeFlight_only _ .feed _)
  · exact dropped.trans (completeFlight_only _ .feed _)
  · exact dropped.within

theorem enterJam_only (c : JamCause) (x : Cell) :
    Only [.line, .jamCause, .jamCell, .live, .flags .super, .flags .feed, .flags .print] s (s.enterJam c x) := by
  have entered : Only [.line, .jamCause, .jamCell] s { s with line := .jammed, jamCause := c, jamCell := some x } := by
    intro q absent
    cases q
    case line | jamCause | jamCell => exact absurd (by simp) absent
    all_goals rfl
  exact ((((entered.trans (bump_only _ .jams)).trans (raise_only _ .feed .jam)).trans (raise_only _ .print .jam)).trans
    (raise_only _ .super .jam)).within

/-- What a jam can change (R149). -/
abbrev jamParts : List Part :=
  [.line, .jamCause, .jamCell, .live, .flags .super, .flags .feed, .flags .print, .read, .head .high, .head .low, .track,
    .routes, .stages, .gates, .stallTimer, .release, .flight .feed, .code .feed, .xdone .feed, .xcall .feed]

theorem holdTrack_only :
    Only [.track, .routes, .stages, .gates, .stallTimer] s
      { s with track := s.track.map Record.held, gates := closedGates, stallTimer := stoppedTimer } := by
  intro q absent
  cases q
  case track | routes | stages | gates | stallTimer => exact absurd (by simp) absent
  case tags => exact List.map_map
  all_goals rfl

theorem jam_only (c : JamCause) (x : Cell) : Only jamParts s (s.jam c x) :=
  (((((enterJam_only s c x).trans (jamRead_only _)).trans (jamHead_only _ .high)).trans (jamHead_only _ .low)).trans
    ((holdTrack_only _).trans (jamInduction_only _))).within

/-- What a re-anchor can change (R8, R9, R102). -/
theorem reAnchor_only (r : Record) (n : Nat) :
    Only (.lastRes :: .gates :: markingParts) s (s.reAnchor r n) := by
  unfold State.reAnchor
  dsimp only
  split
  · exact Only.refl _ s
  · exact (((((bump_only s _).trans (updRec_only _ [.track] r.tag _)).trans (moveFlip_only _ _ _)).trans
      (moveGateWindow_only _ _ _)).trans (moveMark_only _ _ _)).within

theorem removeRec_only (t : Tag) :
    Only (.iOcc :: .rOcc :: .stallTimer :: trackParts) s (s.removeRec t) := by
  have removed (l : List Record) (i r : Option Tag) :
      Only (.iOcc :: .rOcc :: trackParts) s { s with track := l, iOcc := i, rOcc := r } := by
    intro q absent
    cases q
    case track | tags | routes | stages | iOcc | rOcc => exact absurd (by simp) absent
    all_goals rfl
  exact ((removed _ _ _).trans (afterRemoval_only _)).within

theorem arrival_only (r : Record) (b : Bin) :
    Only (.read :: .lastRes :: .gates :: .bins :: .live :: .flags .super :: .flags .feed :: .head .high :: .head .low ::
      .flags .print :: .iOcc :: .rOcc :: .stallTimer :: trackParts) s (s.arrival r b) :=
  ((((leaveRead_only s r.tag).trans (countArrival_only _ b r.tag)).trans (departMark_only _ r)).trans
    (removeRec_only _ r.tag)).within

theorem createRecord_only :
    Only (.nextTag :: .iOcc :: .release :: .throughput :: .live :: .flags .super :: trackParts) s s.createRecord := by
  have created (l : List Record) (n : Tag) (i : Option Tag) (r : ReleaseState) (t : Throughput) :
      Only (.nextTag :: .iOcc :: .release :: .throughput :: trackParts) s
        { s with track := l, nextTag := n, iOcc := i, release := r, throughput := t } := by
    intro q absent
    cases q
    case track | tags | routes | stages | nextTag | iOcc | release | throughput => exact absurd (by simp) absent
    all_goals rfl
  exact ((created _ _ _ _ _).trans (bump_only _ .inducted)).within

theorem trailAtI_only (t : Tag) : Only [.track, .stages, .gap, .iOcc] s (s.trailAtI t) := by
  have written := updRec_only s [.track, .stages] t fun r =>
    { r with inductionLength := some (min (distance r.anchor s.pos) 65535), stage := afterTrail r.stage }
  refine (written.trans (gs := [.gap, .iOcc]) fun q absent => ?_).within
  cases q
  case gap | iOcc => exact absurd (by simp) absent
  all_goals rfl

theorem expireGrant_only : Only (.flags .feed :: .release :: countParts) s s.expireGrant := by
  unfold State.expireGrant
  split
  · split
    · exact (((raise_only s .feed .feedMiss).trans (bump_only _ .feedMisses)).trans (setRelease_only _ _)).within
    · exact Only.refl _ s
  · exact Only.refl _ s

theorem wake_only : Only [.line, .training] s s.wake := by
  unfold State.wake
  split
  · exact (setLine_only s .idle).trans (setTraining_only { s with line := .idle } _)
  · exact Only.refl _ s

theorem advance_only : Only [.pos, .gap, .stallTimer] s s.advance := by
  intro q absent
  cases q
  case pos | gap | stallTimer => exact absurd (by simp) absent
  all_goals rfl

/-! ### Time base, completions and bulk removal -/

theorem countStall_only : Only [.stallTimer] s s.countStall := by
  unfold State.countStall
  split
  · exact setTimer_only s _
  · exact Only.refl _ s

theorem expireStall_only : Only (.flags .feed :: .stallTimer :: countParts) s s.expireStall := by
  unfold State.expireStall
  split
  · exact ((((raise_only s .feed .stall).trans (raise_only _ .super .stall)).trans (bump_only _ .stalls)).trans
      (setTimer_only _ _)).within
  · exact Only.refl _ s

theorem countInterval_only : Only [.throughput] s s.countInterval := by
  unfold State.countInterval
  split
  · exact setThroughput_only s _
  · exact Only.refl _ s

theorem endInterval_only : Only [.throughput] s s.endInterval := by
  unfold State.endInterval
  split
  · exact setThroughput_only s _
  · exact Only.refl _ s

theorem finishDrain_only : Only (.line :: .stallTimer :: endParts .feed) s s.finishDrain := by
  have ended := (setLine_only s .idle).trans (setTimer_only _ stoppedTimer)
  unfold State.finishDrain
  split
  · unfold State.endDrain
    split
    · exact (ended.trans (completeFlight_only _ .feed _)).within
    · exact ended.within
  · exact Only.refl _ s

theorem finishSwap_only : Only (.bins :: endParts .super) s s.finishSwap := by
  unfold State.finishSwap
  split
  · split
    · exact (setBin_only s _ _).trans (completeFlight_only _ .super _)
    · exact Only.refl _ s
  · exact Only.refl _ s

theorem finishWait_only : Only [.flight .print] s s.finishWait := by
  unfold State.finishWait
  split
  · split
    · split
      · exact Only.refl _ s
      · exact setFlight_only s .print _
    · exact Only.refl _ s
  · exact Only.refl _ s

/-- What the completions of an event can change (R49, R117, R130). -/
theorem completions_only :
    Only ([.line, .stallTimer, .bins, .flight .print] ++ endParts .feed ++ endParts .super) s s.completions :=
  (((finishDrain_only s).trans (finishSwap_only _)).trans (finishWait_only _)).within

theorem judgeGrant_only : Only (.release :: endParts .feed) s s.judgeGrant := by
  unfold State.judgeGrant
  split
  · split
    · exact (setRelease_only s _).trans (completeFlight_only _ .feed _)
    · exact Only.refl _ s
  · exact Only.refl _ s

theorem closeHeld_only (r : Record) : Only [.track, .lastRes] s (s.closeHeld r) := by
  unfold State.closeHeld
  split
  · split
    · exact closeFlip_only s _ _
    · exact Only.refl _ s
  · exact Only.refl _ s

end

theorem foldl_closeHeld_only (l : List Record) (s : State) : Only [.track, .lastRes] s (l.foldl State.closeHeld s) := by
  induction l generalizing s with
  | nil => exact Only.refl _ s
  | cons r l ih => exact ((closeHeld_only s r).trans (ih _)).within

section
variable (s : State)

theorem emptyTrack_only : Only (.iOcc :: .rOcc :: .bins :: .stallTimer :: trackParts) s s.emptyTrack := by
  have emptied (b : Vector BinEntry 7) :
      Only (.iOcc :: .rOcc :: .bins :: trackParts) s { s with track := [], iOcc := none, rOcc := none, bins := b } := by
    intro q absent
    cases q
    case track | tags | routes | stages | iOcc | rOcc | bins => exact absurd (by simp) absent
    all_goals rfl
  exact ((emptied _).trans (afterRemoval_only _)).within

theorem purgeTrack_only :
    Only (.lastRes :: .live :: .flags .super :: .iOcc :: .rOcc :: .bins :: .stallTimer :: trackParts) s s.purgeTrack :=
  (((foldl_closeHeld_only s.track s).trans (bumpBy_only _ .purged _)).trans (emptyTrack_only _)).within

end

end Sys2Proof.Proofs
end

section
/-! PROOFS. Counters (R136): a raised counter, and the ledger of an operation, which says what counters it can raise and
that TALLY SATURATED follows them. -/

-- The proofs are elaborated one after another: the check gives each thread a large stack within a fixed memory.
set_option Elab.async false

namespace Sys2Proof.Proofs

open Sys2Proof.Machine
open Sys2Proof.Claims

/-! ### The counters by their index (R136) -/

/-- The counter of an index. -/
def tallyAt (i : Fin 32) : Tally :=
  (#v[.inducted, .exited, .purged, .strayEdges, .feedMisses, .cls .stampedUp, .cls .stampedInv, .cls .meteredUp,
    .cls .meteredInv, .cls .unfaced, .cls .ambiguous, .cls .unusual, .cls .short, .cls .overlength, .flipped,
    .turnConflicts, .cancelled, .uncancelledConflict, .uncancelledOffline, .incompleteMarks, .floodedPieces, .jams,
    .reAnchors, .arrivals .endTray, .arrivals (.tray 0), .arrivals (.tray 1), .arrivals (.tray 2), .arrivals (.tray 3),
    .arrivals (.tray 4), .arrivals (.tray 5), .stalls, .lineResets] : Vector Tally 32)[i]

theorem tallyAt_tallyIx (v : Tally) : tallyAt (tallyIx v) = v := by
  cases v with
  | cls c => cases c <;> rfl
  | arrivals b =>
    cases b with
    | endTray => rfl
    | tray k => match k with | 0 | 1 | 2 | 3 | 4 | 5 => rfl
  | _ => rfl

theorem tallyIx_tallyAt (i : Fin 32) : tallyIx (tallyAt i) = i := by
  revert i
  decide

theorem tallyIx_injective : Function.Injective tallyIx := Function.LeftInverse.injective tallyAt_tallyIx

theorem live_eq_tally (s : State) (i : Fin 32) : s.live[i] = s.tally (tallyAt i) := by
  simp only [State.tally, tallyIx_tallyAt]

/-! ### A raised counter (R136) -/

theorem addTally_tally_ne (s : State) {t v : Tally} (n : Nat) (other : v ≠ t) :
    (s.addTally t n).tally v = s.tally v := by
  have apart : (tallyIx t).val ≠ (tallyIx v).val := fun same => other (tallyIx_injective (Fin.ext same)).symm
  exact Vector.getElem_set_ne (Fin.isLt _) (Fin.isLt _) apart

theorem raise_live (s : State) (x : PortId) (n : Notice) : (s.raise x n).live = s.live :=
  raise_only s x n .live (by simp)

theorem raise_tally (s : State) (x : PortId) (n : Notice) (v : Tally) : (s.raise x n).tally v = s.tally v := by
  rw [State.tally, State.tally, raise_live]

/-- A counter reaches its limit from below. -/
def Saturates (s : State) (t : Tally) (n : Nat) : Prop := s.tally t < tallyMax ∧ tallyMax ≤ s.tally t + n

theorem bumpBy_saturating {s : State} {t : Tally} {n : Nat} (sat : Saturates s t n) :
    s.bumpBy t n = (s.addTally t n).raise .super .tallySaturated := if_pos sat

theorem bumpBy_silent {s : State} {t : Tally} {n : Nat} (silent : ¬ Saturates s t n) : s.bumpBy t n = s.addTally t n :=
  if_neg silent

theorem bumpBy_tally (s : State) (t : Tally) (n : Nat) (v : Tally) : (s.bumpBy t n).tally v = (s.addTally t n).tally v := by
  by_cases sat : Saturates s t n
  · rw [bumpBy_saturating sat, raise_tally]
  · rw [bumpBy_silent sat]

theorem bumpBy_tally_self (s : State) (t : Tally) (n : Nat) : (s.bumpBy t n).tally t = raised s t n :=
  (bumpBy_tally s t n t).trans (State.addTally_tally s t n)

theorem bumpBy_tally_ne (s : State) {t v : Tally} (n : Nat) (other : v ≠ t) : (s.bumpBy t n).tally v = s.tally v :=
  (bumpBy_tally s t n v).trans (addTally_tally_ne s n other)

theorem bumpBy_portS_saturating {s : State} {t : Tally} {n : Nat} (sat : Saturates s t n) :
    (s.bumpBy t n).portS = flagged s.portS (s.portS.flags ||| 4) := by
  rw [bumpBy_saturating sat]
  rfl

theorem bumpBy_portS_silent {s : State} {t : Tally} {n : Nat} (silent : ¬ Saturates s t n) :
    (s.bumpBy t n).portS = s.portS := by
  rw [bumpBy_silent silent, State.addTally_portS]

theorem bumpBy_ports (s : State) (t : Tally) (n : Nat) : (s.bumpBy t n).portF = s.portF ∧ (s.bumpBy t n).portP = s.portP := by
  by_cases sat : Saturates s t n
  · rw [bumpBy_saturating sat]
    exact ⟨rfl, rfl⟩
  · rw [bumpBy_silent sat]
    exact ⟨rfl, rfl⟩

/-- Settles O10: a raise either reaches the limit from below, and raises the notice, or it does not. -/
theorem raisedCounterStopsAtItsLimit : Obligations.RaisedCounterStopsAtItsLimit := by
  intro s t n v
  obtain ⟨feed, print⟩ := bumpBy_ports s t n
  refine ⟨bumpBy_tally_self s t n, fun u other => bumpBy_tally_ne s n other, fun below reached => ?_, fun stays => ?_,
    feed, print, bumpBy_only s t n .track (by simp), bumpBy_only s t n .line (by simp)⟩
  · exact congrArg Port.flags (bumpBy_portS_saturating ⟨below, reached⟩)
  · exact bumpBy_portS_silent fun ⟨below, reached⟩ => stays.elim below.not_ge reached.not_gt

theorem bump_tally_self (s : State) (t : Tally) : (s.bump t).tally t = raised s t 1 := bumpBy_tally_self s t 1

theorem bump_tally_ne (s : State) {t v : Tally} (other : v ≠ t) : (s.bump t).tally v = s.tally v :=
  bumpBy_tally_ne s 1 other

/-! ### Ledgers -/

/-- From `s` to `t` counters have risen, none outside `vs`; at the Supervisor port the notices `e` are raised, and TALLY
SATURATED where a counter came to its limit. -/
structure Ledger (vs : List Tally) (e : Byte) (s t : State) : Prop where
  gains  : ∀ v, ∃ n, t.tally v = gained s v n
  others : ∀ v, v ∉ vs → t.tally v = s.tally v
  flags  : t.portS.flags = s.portS.flags ||| e ||| saturation s t

theorem gained_zero (s : State) (v : Tally) : gained s v 0 = s.tally v := rfl

theorem gained_pos (s : State) (v : Tally) {n : Nat} (some : n ≠ 0) : gained s v n = raised s v n := if_neg some

/-- Gains add up. -/
theorem gained_gained {s t : State} {v : Tally} {n : Nat} (first : t.tally v = gained s v n) (m : Nat) :
    gained t v m = gained s v (n + m) := by
  unfold gained raised
  rw [first]
  unfold gained raised
  split <;> split <;> split <;> omega

theorem saturation_eq_zero {s t : State} (none : ∀ i : Fin 32, s.live[i] < 4294967295 → t.live[i] < 4294967295) :
    saturation s t = 0 := if_neg fun ⟨i, below, reached⟩ => reached.not_gt (none i below)

/-- A counter that gains stays at or above its limit. -/
theorem gained_ge_of_ge {s : State} {v : Tally} {n : Nat} (full : 4294967295 ≤ s.tally v) :
    4294967295 ≤ gained s v n := by
  unfold gained raised
  split <;> omega

theorem saturation_trans {s t u : State} (st : ∀ v, ∃ n, t.tally v = gained s v n)
    (tu : ∀ v, ∃ n, u.tally v = gained t v n) : saturation s u = saturation s t ||| saturation t u := by
  have rises (i : Fin 32) : (s.live[i] < 4294967295 ∧ 4294967295 ≤ u.live[i]) ↔
      (s.live[i] < 4294967295 ∧ 4294967295 ≤ t.live[i]) ∨ (t.live[i] < 4294967295 ∧ 4294967295 ≤ u.live[i]) := by
    rw [live_eq_tally, live_eq_tally, live_eq_tally]
    obtain ⟨n, first⟩ := st (tallyAt i)
    obtain ⟨m, second⟩ := tu (tallyAt i)
    have kept := gained_ge_of_ge (s := s) (v := tallyAt i) (n := n)
    have still := gained_ge_of_ge (s := t) (v := tallyAt i) (n := m)
    omega
  unfold saturation
  simp only [rises, exists_or]
  by_cases first : ∃ i : Fin 32, s.live[i] < 4294967295 ∧ 4294967295 ≤ t.live[i]
  · by_cases second : ∃ i : Fin 32, t.live[i] < 4294967295 ∧ 4294967295 ≤ u.live[i]
    · rw [if_pos (Or.inl first), if_pos first, if_pos second]
      rfl
    · rw [if_pos (Or.inl first), if_pos first, if_neg second]
      rfl
  · by_cases second : ∃ i : Fin 32, t.live[i] < 4294967295 ∧ 4294967295 ≤ u.live[i]
    · rw [if_pos (Or.inr second), if_neg first, if_pos second]
      rfl
    · rw [if_neg fun either => either.elim first second, if_neg first, if_neg second]
      rfl

theorem Ledger.trans {vs ws : List Tally} {e f : Byte} {s t u : State} (st : Ledger vs e s t) (tu : Ledger ws f t u) :
    Ledger (vs ++ ws) (e ||| f) s u where
  gains v := by
    obtain ⟨n, first⟩ := st.gains v
    obtain ⟨m, second⟩ := tu.gains v
    exact ⟨n + m, second.trans (gained_gained first m)⟩
  others v out := (tu.others v fun mem => out (List.mem_append_right vs mem)).trans
    (st.others v fun mem => out (List.mem_append_left ws mem))
  flags := by
    rw [tu.flags, st.flags, saturation_trans st.gains tu.gains]
    ac_rfl

theorem Ledger.within {vs ws : List Tally} {e f : Byte} {s t : State} (st : Ledger vs e s t)
    (sub : ∀ v ∈ vs, v ∈ ws := by simp) (same : e = f := by rfl) : Ledger ws f s t where
  gains := st.gains
  others v out := st.others v fun mem => out (sub v mem)
  flags := same ▸ st.flags

/-- Where no counter moves, an operation's ledger is what it does to the Supervisor's notices. -/
theorem Ledger.of_live {e : Byte} {s t : State} (live : t.live = s.live)
    (flags : t.portS.flags = s.portS.flags ||| e) : Ledger [] e s t where
  gains v := ⟨0, by rw [gained_zero, State.tally, State.tally, live]⟩
  others v _ := by rw [State.tally, State.tally, live]
  flags := by
    rw [saturation_eq_zero fun i below => by rwa [live], flags]
    simp

/-- An operation that leaves counters and Supervisor notices alone has an empty ledger. -/
theorem Only.ledger {fs : List Part} {s t : State} (st : Only fs s t) (live : .live ∉ fs := by simp)
    (flags : .flags .super ∉ fs := by simp) : Ledger [] 0 s t :=
  Ledger.of_live (st .live live) ((show t.portS.flags = s.portS.flags from st (.flags .super) flags).trans (by simp))

theorem Ledger.refl (vs : List Tally) (s : State) : Ledger vs 0 s s := (Only.refl [] s).ledger.within

section
variable (s : State)

theorem bumpBy_ledger (t : Tally) (n : Nat) : Ledger [t] 0 s (s.bumpBy t n) where
  gains v := by
    by_cases named : v = t
    · subst named
      rw [bumpBy_tally_self]
      by_cases some : n = 0
      · subst some
        by_cases within : s.tally v ≤ 4294967295
        · exact ⟨0, by rw [gained_zero, raised]; omega⟩
        · exact ⟨1, by rw [gained_pos _ _ one_ne_zero, raised, raised]; omega⟩
      · exact ⟨n, (gained_pos s v some).symm⟩
    · exact ⟨0, bumpBy_tally_ne s n named⟩
  others v out := bumpBy_tally_ne s n (by simpa using out)
  flags := by
    by_cases sat : Saturates s t n
    · have reached : ∃ i : Fin 32, s.live[i] < 4294967295 ∧ 4294967295 ≤ (s.bumpBy t n).live[i] := by
        refine ⟨tallyIx t, sat.1, ?_⟩
        have raised : (s.bumpBy t n).live[tallyIx t] = _ := bumpBy_tally_self s t n
        rw [raised, Claims.raised]
        exact le_min sat.2 le_rfl
      have four : saturation s (s.bumpBy t n) = 4 := if_pos reached
      rw [bumpBy_portS_saturating sat, four]
      simp [flagged]
    · have none : saturation s (s.bumpBy t n) = 0 := saturation_eq_zero fun i below => by
        rw [live_eq_tally] at below ⊢
        by_cases named : tallyAt i = t
        · rw [named] at below ⊢
          rw [bumpBy_tally_self, raised]
          have short : ¬ tallyMax ≤ s.tally t + n := fun reached => sat ⟨below, reached⟩
          unfold tallyMax at short
          omega
        · rwa [bumpBy_tally_ne s n named]
      rw [bumpBy_portS_silent sat, none]
      simp

theorem bump_ledger (t : Tally) : Ledger [t] 0 s (s.bump t) := bumpBy_ledger s t 1

theorem bumpIf_ledger (t : Option Tally) : Ledger t.toList 0 s (s.bumpIf t) := by
  cases t with
  | none => exact Ledger.refl _ s
  | some t => exact bump_ledger s t

/-- A notice raised at the Supervisor port. -/
theorem raise_super_ledger {n : Notice} {k : Nat} (bit : noticeBit .super n = some k) :
    Ledger [] (BitVec.ofNat 8 (2 ^ k)) s (s.raise .super n) :=
  Ledger.of_live (raise_live s .super n) (by rw [State.raise, bit]; rfl)

theorem raise_feed_ledger (n : Notice) : Ledger [] 0 s (s.raise .feed n) := (raise_only s .feed n).ledger

theorem raise_print_ledger (n : Notice) : Ledger [] 0 s (s.raise .print n) := (raise_only s .print n).ledger

/-! ### Ledgers of the stacker and the cancel unit -/

theorem enterFull_ledger (b : Bin) : Ledger [] 2 s (s.enterFull b) := by
  have full := (setBin_only s b { s.bin b with state := .full }).ledger.trans (raise_super_ledger _ (n := .trayFull) rfl)
  unfold State.enterFull
  dsimp only
  split
  · exact (full.trans (raise_feed_ledger _ .trayFullEnd)).within
  · exact full.within

theorem countDone_ledger (r : Reservation) : Ledger [.cancelled] 0 s (s.countDone r) := by
  unfold State.countDone
  dsimp only
  split
  · exact Ledger.refl _ s
  · split
    · exact ((bump_ledger s .cancelled).trans (setMark_only _ _ _).ledger).within
    · exact bump_ledger s .cancelled

theorem stepHead_ledger (h : HeadId) : Ledger [.cancelled] 0 s (s.stepHead h) := by
  unfold State.stepHead
  dsimp only
  split
  · exact (setHead_only s h _).ledger.within
  · split
    · exact (setHead_only s h _).ledger.within
    · exact (setHead_only s h _).ledger.within
    · exact (setHead_only s h _).ledger.within
    · split
      · exact ((countDone_ledger s _).trans (setHead_only _ h _).ledger).within
      · exact (setHead_only s h _).ledger.within

theorem stepHeads_ledger : Ledger [.cancelled] 0 s s.stepHeads :=
  ((stepHead_ledger s .high).trans (stepHead_ledger _ .low)).within

theorem giveUp_ledger (t : Tag) (r : Reason) : Ledger [.uncancelledOffline] 0 s (s.giveUp t r) :=
  ((setMark_only s t _).ledger.trans (bump_ledger _ _)).within

theorem conflictMark_ledger (t : Tag) : Ledger [.uncancelledConflict] 0 s (s.conflictMark t) :=
  (((setMark_only s t _).ledger.trans (bump_ledger _ _)).trans (raise_print_ledger _ _)).within

theorem scheduleMark_ledger (h : HeadId) (t : Tag) (r : Reservation) :
    Ledger [.uncancelledConflict] 0 s (s.scheduleMark h t r) := by
  unfold State.scheduleMark
  split
  · exact conflictMark_ledger s t
  · exact ((setHead_only s h _).ledger.trans (setMark_only _ t _).ledger).within

theorem requestMark_ledger (q : MarkRequest) :
    Ledger [.uncancelledConflict, .uncancelledOffline] 0 s (s.requestMark q) := by
  have adopted := (setSlot_only s q.slot s.store[q.slot].adopt).ledger
  unfold State.requestMark
  dsimp only
  split
  · exact (adopted.trans (giveUp_ledger _ _ _)).within
  · split
    · exact ((adopted.trans (giveUp_ledger _ _ _)).trans (raise_print_ledger _ _)).within
    · split
      · exact ((adopted.trans (giveUp_ledger _ _ _)).trans (raise_print_ledger _ _)).within
      · exact (adopted.trans (scheduleMark_ledger _ _ _ _)).within

theorem setHead_ledger (h : HeadId) (d : Head) : Ledger [] 0 s (s.setHead h d) := (setHead_only s h d).ledger

theorem moveMark_ledger (r : Record) (d : Pos) : Ledger [.uncancelledConflict] 0 s (s.moveMark r d) := by
  unfold State.moveMark
  split
  · dsimp only
    split
    · exact ((setHead_ledger s _ _).trans (conflictMark_ledger _ _)).within
    · exact (setHead_ledger s _ _).within
  · exact Ledger.refl _ s

theorem departMark_ledger (r : Record) : Ledger [.incompleteMarks] 0 s (s.departMark r) := by
  unfold State.departMark
  split
  · dsimp only
    split
    · exact (((setHead_ledger s _ _).trans (bump_ledger _ _)).trans (raise_print_ledger _ _)).within
    · exact (setHead_ledger s _ _).within
  · exact Ledger.refl _ s

theorem outcome_ledger (r : Reservation) (m : Mark) : Ledger [] 0 s (s.outcome r m) := (outcome_only s r m).ledger

theorem settleUnbegun_ledger (byJam : Bool) (r : Reservation) :
    Ledger [.uncancelledOffline] 0 s (s.settleUnbegun byJam r) := by
  unfold State.settleUnbegun
  split
  · exact Ledger.refl _ s
  · split
    · exact (outcome_ledger s r _).within
    · exact ((outcome_ledger s r _).trans (bump_ledger _ _)).within

theorem settleActive_ledger (byJam : Bool) (st : HeadState) (r : Reservation) :
    Ledger [.incompleteMarks, .cancelled, .uncancelledOffline] 0 s (s.settleActive byJam st r) := by
  unfold State.settleActive
  split
  · exact Ledger.refl _ s
  · split
    · dsimp only
      split
      · exact ((outcome_ledger s r _).trans (bump_ledger _ _)).within
      · exact (((outcome_ledger s r _).trans (bump_ledger _ _)).trans (raise_print_ledger _ _)).within
    · exact ((outcome_ledger s r _).trans (bump_ledger _ _)).within
    · exact (settleUnbegun_ledger s byJam r).within

theorem settleSlot_ledger {vs : List Tally} {f : State → Reservation → State} (each : ∀ s r, Ledger vs 0 s (f s r))
    (o : Option Reservation) : Ledger vs 0 s (s.settleSlot f o) := by
  cases o with
  | none => exact Ledger.refl vs s
  | some r => exact each s r

theorem settleHead_ledger (byJam : Bool) (h : HeadId) :
    Ledger [.incompleteMarks, .cancelled, .uncancelledOffline] 0 s (s.settleHead byJam h) :=
  ((settleSlot_ledger s (fun s r => settleActive_ledger s byJam (_) r) _).trans
    (settleSlot_ledger _ (fun s r => settleUnbegun_ledger s byJam r) _)).within

theorem jamHead_ledger (h : HeadId) :
    Ledger [.incompleteMarks, .cancelled, .uncancelledOffline] 0 s (s.jamHead h) :=
  ((settleHead_ledger s true h).trans (setHead_ledger _ h _)).within

theorem takeOffline_ledger (h : HeadId) :
    Ledger [.incompleteMarks, .cancelled, .uncancelledOffline] 0 s (s.takeOffline h) := by
  unfold State.takeOffline
  split
  · exact Ledger.refl _ s
  · exact ((settleHead_ledger s false h).trans (setHead_ledger _ h _)).within

/-! ### Ledgers of the planner and the reader -/

theorem planMark_ledger (t : Tag) (a : Pos) (k : Classified) (g : GatePlan) (c : Bool) (e : SortEntry) (lp : Nat) :
    Ledger [.uncancelledConflict, .uncancelledOffline] 0 s (s.planMark t a k g c e lp) := by
  unfold State.planMark
  split
  · split
    · exact requestMark_ledger s _
    · exact (setMark_only s t _).ledger.within
  · exact (setMark_only s t _).ledger.within

theorem gateTally_toList_sub (g : GatePlan) (c : Bool) : ∀ v ∈ (gateTally g c).toList, v ∈ [Tally.turnConflicts, .flipped] := by
  unfold gateTally
  split
  · simp
  · split <;> simp

theorem planFacing_ledger (t : Tag) (k : Classified) (g : GatePlan) (c : Bool) :
    Ledger [.cls k.cls, .turnConflicts, .flipped] 0 s (s.planFacing t k g c) := by
  have counted := (bump_ledger s (.cls k.cls)).trans ((bumpIf_ledger _ (gateTally g c)).within (gateTally_toList_sub g c))
  exact ((counted.trans (setLast_only _ _).ledger).trans (updRec_only _ [.track] t _).ledger).within

/-- The counters a plan can raise besides the class's (R73). -/
abbrev planTallies : List Tally := [.turnConflicts, .flipped, .uncancelledConflict, .uncancelledOffline]

theorem plan_ledger (t : Tag) (v : Verdict) : ∃ k, Ledger (.cls k :: planTallies) 0 s (s.plan t v) := by
  unfold State.plan
  split
  · exact ⟨.unfaced, Ledger.refl _ s⟩
  next r _ =>
    exact ⟨(classify v (r.findings.getD (Vector.replicate 8 none)) (r.lp.getD 0)).cls,
      (((((planFacing_ledger s t _ _ _).trans (planMark_ledger _ _ _ _ _ _ _ _)).trans
      (bind_only _ _ _ _ _).ledger).trans (updRec_only _ [.track, .stages] t _).ledger).trans
      (driveGate_only _ _).ledger).within⟩

theorem writeFindings_ledger (t : Tag) (ch : Vector Channel 8) : Ledger [.floodedPieces] 0 s (s.writeFindings t ch) := by
  have written := (updRec_only s [.track] t fun r => { r with findings := some (findingsOf ch) }).ledger
  unfold State.writeFindings
  dsimp only
  split
  · exact (written.trans (bump_ledger _ _)).within
  · exact written.within

theorem abandonRead_ledger (r : Reading) (ch : Vector Channel 8) :
    ∃ k, Ledger (.floodedPieces :: .cls k :: planTallies) 0 s (s.abandonRead r ch) := by
  obtain ⟨k, planned⟩ := plan_ledger { s.writeFindings r.tag (closeChannels ch r.latched) with read := .overrun r } r.tag
    .overlength
  exact ⟨k, (((writeFindings_ledger s r.tag _).trans (setRead_only _ _).ledger).trans planned).within⟩

theorem abandonIfDue_ledger : ∃ k, Ledger (.floodedPieces :: .cls k :: planTallies) 0 s s.abandonIfDue := by
  unfold State.abandonIfDue
  split
  · split
    · exact abandonRead_ledger s _ _
    · exact ⟨.unfaced, Ledger.refl _ s⟩
  · exact ⟨.unfaced, Ledger.refl _ s⟩

theorem completeRead_ledger (r : Reading) (ch : Vector Channel 8) :
    ∃ k, Ledger (.floodedPieces :: .cls k :: planTallies) 0 s (s.completeRead r ch) := by
  have fixed := (updRec_only s [.track] r.tag fun q => { q with lp := some r.count }).ledger
  obtain ⟨k, planned⟩ := plan_ledger
    { (s.updRec r.tag fun q => { q with lp := some r.count }).writeFindings r.tag (closeChannels ch r.latched) with
      read := .idle } r.tag (if r.count < r.latched.minPiece then .short else .inRange)
  exact ⟨k, (((fixed.trans (writeFindings_ledger _ r.tag _)).trans (setRead_only _ _).ledger).trans planned).within⟩

/-! ### Ledgers of the checkpoint unit and the time base -/

theorem enterJam_ledger (c : JamCause) (x : Cell) : Ledger [.jams] 1 s (s.enterJam c x) := by
  have entered : Ledger [] 0 s { s with line := .jammed, jamCause := c, jamCell := some x } :=
    Ledger.of_live rfl (by simp)
  exact ((((entered.trans (bump_ledger _ .jams)).trans (raise_feed_ledger _ .jam)).trans (raise_print_ledger _ .jam)).trans
    (raise_super_ledger _ (n := .jam) rfl)).within

/-- The counters a jam raises (R107, R148). -/
abbrev jamTallies : List Tally := [.jams, .incompleteMarks, .cancelled, .uncancelledOffline]

theorem jam_ledger (c : JamCause) (x : Cell) : Ledger jamTallies 1 s (s.jam c x) := by
  exact (((((enterJam_ledger s c x).trans (jamRead_only _).ledger).trans (jamHead_ledger _ .high)).trans
    (jamHead_ledger _ .low)).trans ((holdTrack_only _).ledger.trans (jamInduction_only _).ledger)).within

/-- An arrival raises its two counters, Incomplete marks where a mark is cut, and TRAY FULL where its bin fills (R129). -/
theorem countArrival_ledger (b : Bin) (t : Tag) : ∃ e, Ledger [.arrivals b, .exited] e s (s.countArrival b t) := by
  have counted (u : BinEntry) := ((((setBin_only s b u).ledger.trans (bump_ledger _ (.arrivals b))).trans
    (bump_ledger _ .exited)).trans (holdGate_only _ b t).ledger)
  unfold State.countArrival
  dsimp only
  split
  · exact ⟨_, ((counted _).trans (enterFull_ledger _ b)).within⟩
  · exact ⟨_, (counted _).within⟩

theorem arrival_ledger (r : Record) (b : Bin) :
    ∃ e, Ledger [.arrivals b, .exited, .incompleteMarks] e s (s.arrival r b) := by
  obtain ⟨e, counted⟩ := countArrival_ledger (s.leaveRead r.tag) b r.tag
  exact ⟨_, ((((leaveRead_only s r.tag).ledger.trans counted).trans (departMark_ledger _ r)).trans
    (removeRec_only _ r.tag).ledger).within⟩

theorem reAnchor_ledger (r : Record) (n : Nat) :
    Ledger [.reAnchors, .uncancelledConflict] 0 s (s.reAnchor r n) := by
  unfold State.reAnchor
  dsimp only
  split
  · exact Ledger.refl _ s
  · exact (((((bump_ledger s .reAnchors).trans (updRec_only _ [.track] r.tag _).ledger).trans
      (moveFlip_only _ _ _).ledger).trans (moveGateWindow_only _ _ _).ledger).trans (moveMark_ledger _ _ _)).within

theorem matched_pass_ledger {x : Cell} (r : Record) (noBin : cellBin x = none) :
    Ledger [.reAnchors, .uncancelledConflict] 0 s (s.matched x r) := by
  have moved := (reAnchor_ledger s r (cellPosition s.params.geo x)).trans
    (updRec_only _ [.track, .routes, .stages] r.tag fun q => { q with next := nextCheckpoint x r }).ledger
  unfold State.matched
  rw [noBin]
  dsimp only
  split
  · exact (moved.trans (startRead_only _ r.tag).ledger).within
  · exact moved.within

theorem createRecord_ledger : Ledger [.inducted] 0 s s.createRecord := by
  unfold State.createRecord
  have created (l : List Record) (n : Tag) (i : Option Tag) (r : ReleaseState) (t : Throughput) :
      Ledger [] 0 s { s with track := l, nextTag := n, iOcc := i, release := r, throughput := t } :=
    Ledger.of_live rfl (by simp)
  exact ((created _ _ _ _ _).trans (bump_ledger _ .inducted)).within

/-- The expiry of the stall timer raises STALL at the Supervisor port (R15). -/
theorem expireStall_ledger : ∃ e, Ledger [.stalls] e s s.expireStall := by
  unfold State.expireStall
  split
  · exact ⟨_, ((((raise_feed_ledger s .stall).trans (raise_super_ledger _ (n := .stall) rfl)).trans
      (bump_ledger _ .stalls)).trans (setTimer_only _ _).ledger).within⟩
  · exact ⟨0, Ledger.refl _ s⟩

theorem expireGrant_ledger : Ledger [.feedMisses] 0 s s.expireGrant := by
  unfold State.expireGrant
  split
  · split
    · exact (((raise_feed_ledger s .feedMiss).trans (bump_ledger _ .feedMisses)).trans (setRelease_only _ _).ledger).within
    · exact Ledger.refl _ s
  · exact Ledger.refl _ s

theorem purgeTrack_ledger : Ledger [.purged] 0 s s.purgeTrack :=
  (((foldl_closeHeld_only s.track s).ledger.trans (bumpBy_ledger _ .purged _)).trans (emptyTrack_only _).ledger).within

end

end Sys2Proof.Proofs
end

section
/-! PROOFS. What a step can do. `Act fs s t` is one thing a step can do to the state, with its footprint `fs`; a step is a
chain of acts (`step_acts`). An invariant is kept by every step if it is kept by every act. -/

-- The proofs are elaborated one after another: the check gives each thread a large stack within a fixed memory.
set_option Elab.async false

namespace Sys2Proof.Proofs

open Sys2Proof.Machine
open Sys2Proof.Claims

/-! ### Acts -/

/-- The parts no invariant rests on. The queue is not among them: no act changes it. -/
abbrev quietParts : List Part :=
  [.pos, .cells, .iOcc, .rOcc, .gap, .gateOut, .lastRes, .store, .sort, .throughput, .jamCause, .jamCell, .resetCause,
    .resetLevel, .freeCount, .track,
    .code .feed, .xdone .feed, .xcall .feed, .flags .feed, .mask .feed, .held .feed, .out .feed,
    .code .print, .xdone .print, .xcall .print, .flags .print, .mask .print, .held .print, .out .print,
    .code .super, .xdone .super, .xcall .super, .flags .super, .mask .super, .held .super, .out .super]

/-- The parts the invariants rest on. -/
abbrev soundParts : List Part :=
  [.stallTimer, .nextTag, .release, .training, .baselines, .read, .params, .head .high, .head .low, .bins, .gates, .live,
    .snapshot, .line, .tags, .routes, .stages, .ring .feed, .ring .print, .ring .super, .flight .feed, .flight .print,
    .flight .super]

/-- Every part but the queue. -/
abbrev everyPart : List Part := quietParts ++ soundParts

theorem mem_everyPart {p : Part} (other : p ≠ .pending) : p ∈ everyPart := by
  cases p
  case pending => exact absurd rfl other
  case head h => cases h <;> simp
  case ring x | flight x | code x | xdone x | xcall x | flags x | mask x | held x | out x => cases x <;> simp
  all_goals simp

/-- A block read in flight (R162). -/
def IsBlockRead (k : Flight) : Prop := (∃ n i p c, k = .readTallies n i p c) ∨ ∃ bs, k = .readBytes bs

/-- One stage and another of the same command in flight. -/
def SameFlight (k l : Flight) : Prop :=
  (∃ a b, k = .loadMark a ∧ l = .loadMark b) ∨ IsBlockRead k ∧ IsBlockRead l

/-- A command whose block phase can come to its end. -/
def IsBlock (k : Flight) : Prop := (∃ a, k = .loadMark a) ∨ IsBlockRead k

/-- One thing a step can do, with the parts it can change. -/
inductive Act : List Part → State → State → Prop where
  | quiet {s t} (only : Only quietParts s t) : Act quietParts s t
  | ring {s} (x : PortId) (r : List Byte) (whole : (s.port x).ring.length = 24 → r.length = 24) :
      Act [.ring x] s (s.setPort x { s.port x with ring := r })
  | powerOn {s} (cells : CellLevels) (asserted : Bool) : Act everyPart s (s.powerOn cells asserted)
  | lineReset {s} (cause : ResetCause) : Act everyPart s (s.lineReset cause)
  | advance {s} : Act [.pos, .gap, .stallTimer] s s.advance
  | jam {s} (cause : JamCause) (cell : Cell) : Act jamParts s (s.jam cause cell)
  | wake {s} : Act [.line, .training] s s.wake
  | useSamples {s} (l : LineState) (z : Samples) :
      Act [.baselines, .training, .flags .feed, .read] s (s.useSamples l z)
  | abandonRead {s} (r : Reading) (ch : Vector Channel 8) (read : s.read = .sampling r ch) :
      Act (.read :: planParts) s (s.abandonRead r ch)
  | stepHead {s} (h : HeadId) : Act (.head h :: .track :: countParts) s (s.stepHead h)
  | stepGates {s} : Act [.gates] s s.stepGates
  | expireGrant {s} : Act (.flags .feed :: .release :: countParts) s s.expireGrant
  | strayEdge {s} : Act countParts s (s.bump .strayEdges)
  | createRecord {s} (g : Pos) (granted : s.release = .granted g) :
      Act (.nextTag :: .iOcc :: .release :: .throughput :: .live :: .flags .super :: trackParts) s s.createRecord
  | arrival {s} (r : Record) (b : Bin) (mem : r ∈ s.track) (next : r.next = some (binCell b)) :
      Act (.read :: .lastRes :: .gates :: .bins :: .live :: .flags .super :: .flags .feed :: .head .high :: .head .low ::
        .flags .print :: .iOcc :: .rOcc :: .stallTimer :: trackParts) s (s.arrival r b)
  | pass {s} (x : Cell) (r : Record) (mem : r ∈ s.track) (next : r.next = some x) (noBin : cellBin x = none)
      (moving : Moving s) :
      Act (.read :: .rOcc :: .routes :: .stages :: .lastRes :: .gates :: markingParts) s (s.matched x r)
  | trailAtI {s} (t : Tag) : Act [.track, .stages, .gap, .iOcc] s (s.trailAtI t)
  | completeRead {s} (r : Reading) (ch : Vector Channel 8) (read : s.read = .sampling r ch) :
      Act (.read :: planParts) s (s.completeRead r ch)
  | completeOverrun {s} (r : Reading) (read : s.read = .overrun r) :
      Act [.read, .track, .lastRes, .gates] s (s.completeOverrun r)
  | countStall {s} : Act [.stallTimer] s s.countStall
  | expireStall {s} : Act (.flags .feed :: .stallTimer :: countParts) s s.expireStall
  | judgeGrant {s} : Act (.release :: endParts .feed) s s.judgeGrant
  | finishDrain {s} : Act (.line :: .stallTimer :: endParts .feed) s s.finishDrain
  | finishSwap {s} : Act (.bins :: endParts .super) s s.finishSwap
  | finishWait {s} : Act [.flight .print] s s.finishWait
  | abort {s} (x : PortId) (call : Bool) (k : Flight) (flight : s.flight x = some k) :
      Act ([.release, .bins, .flags .super, .flags .feed] ++ endParts x) s ((abortEffect k s).complete x call .aborted)
  | start {s} (line : s.line = .idle) : Act [.line] s { s with line := .running }
  | startFromStandby {s} (line : s.line = .standby) :
      Act [.line, .training] s { s with line := .running, training := Vector.replicate 8 0 }
  | release {s} (call : Bool) (line : s.line = .running) :
      Act [.release, .flight .feed] s ({ s with release := s.release.ask }.takeOff .feed call .release)
  | drainAtOnce {s} (line : s.line = .running) (track : s.track = []) (release : s.release = .none) :
      Act [.line, .stallTimer] s { s with line := .idle, stallTimer := stoppedTimer }
  | drain {s} (call : Bool) (line : s.line = .running) (free : s.portF.inFlight = none) :
      Act [.line, .flight .feed] s ({ s with line := .draining }.takeOff .feed call .drain)
  | standby {s} (line : s.line = .idle) : Act [.line] s { s with line := .standby }
  | loadMark {s} (call : Bool) (l : Load) : Act [.flight .print] s (s.takeOff .print call (.loadMark l))
  | takeOnline {s} (h : HeadId) : Act [.head h] s (s.takeOnline h)
  | takeOffline {s} (h : HeadId) : Act (markParts h) s (s.takeOffline h)
  | setParam {s} (p : ParamId) (v : Nat) (consistent : s.consistentWith p (s.clampParam p v) = true) :
      Act [.params, .bins, .flags .super, .flags .feed] s (s.writeParam p (s.clampParam p v))
  | snapshot {s} : Act [.snapshot] s { s with snapshot := s.live }
  | clearTallies {s} (rest : s.atRest = true) :
      Act [.live, .throughput] s { s with live := Vector.replicate 32 0, throughput := freshThroughput }
  | blockRead {s} (call : Bool) (k : Flight) (block : IsBlockRead k) (free : s.portS.inFlight = none) :
      Act [.flight .super] s (s.takeOff .super call k)
  | withhold {s} (b : Bin) (here : ¬ ((s.bin b).state = .swapping ∨ (s.bin b).state = .withheld))
      (unbound : (s.bin b).bound = 0) : Act [.bins] s (s.setBin b { s.bin b with state := .withheld })
  | swapTray {s} (call : Bool) (b : Bin) (here : ¬ ((s.bin b).state = .swapping ∨ (s.bin b).state = .withheld))
      (free : s.portS.inFlight = none) : Act [.bins, .flight .super] s
        ((s.setBin b { s.bin b with state := .swapping }).takeOff .super call (.swapTray b))
  | trayReady {s} (b : Bin) (away : (s.bin b).state = .withheld) :
      Act [.bins] s (s.setBin b { s.bin b with state := .available, count := 0 })
  | purge {s} (line : s.line = .jammed) :
      Act (.lastRes :: .live :: .flags .super :: .iOcc :: .rOcc :: .bins :: .stallTimer :: trackParts) s s.purgeTrack
  | resume {s} (line : s.line = .jammed) (track : s.track = []) : Act [.line] s { s with line := .idle }
  | nextStage {s} (x : PortId) (k l : Flight) (flight : s.flight x = some k) (same : SameFlight k l) :
      Act [.flight x] s (s.setFlight x l)
  | endBlock {s} (x : PortId) (k : Flight) (code : Code) (flight : s.flight x = some k) (block : IsBlock k) :
      Act (endParts x) s (s.completeFlight x code)

theorem abortEffect_only (k : Flight) (s : State) :
    Only [.release, .bins, .flags .super, .flags .feed] s (abortEffect k s) := by
  cases k with
  | release =>
    unfold abortEffect
    dsimp only
    split
    · exact (setRelease_only s .none).within
    · exact Only.refl _ s
  | swapTray b => exact (endSwap_only s b).within
  | _ => exact Only.refl _ s

theorem setParams_only (s : State) (p : Params) : Only [.params] s { s with params := p } := by
  intro q absent
  cases q
  case params => exact absurd (by simp) absent
  all_goals rfl

theorem writeParam_only (s : State) (p : ParamId) (v : Nat) :
    Only [.params, .bins, .flags .super, .flags .feed] s (s.writeParam p v) := by
  cases p with
  | capacity b => exact (setCapacity_only s b v).within
  | _ => exact (setParams_only s _).within

theorem matched_pass_only {x : Cell} (s : State) (r : Record) (noBin : cellBin x = none) :
    Only (.read :: .rOcc :: .routes :: .stages :: .lastRes :: .gates :: markingParts) s (s.matched x r) := by
  have moved := (reAnchor_only s r (cellPosition s.params.geo x)).trans
    (updRec_only _ [.track, .routes, .stages] r.tag fun q => { q with next := nextCheckpoint x r })
  unfold State.matched
  rw [noBin]
  dsimp only
  split
  · exact (moved.trans (startRead_only _ r.tag)).within
  · exact moved.within

/-- Any change that leaves the queue is within every part. -/
theorem only_everyPart {s t : State} (queue : t.pending = s.pending) : Only everyPart s t := by
  intro p absent
  by_cases named : p = .pending
  · subst named
    exact queue
  · exact absurd (mem_everyPart named) absent

/-- An act stays within its footprint. -/
theorem Act.only {fs : List Part} {s t : State} (act : Act fs s t) : Only fs s t := by
  cases act
  case quiet only => exact only
  case powerOn | lineReset => exact only_everyPart rfl
  case jam cause cell => exact jam_only s cause cell
  case ring x r _ => exact setPort_only s _ x _
  case advance => exact advance_only s
  case wake => exact wake_only s
  case useSamples l z => exact useSamples_only s l z
  case abandonRead r ch _ => exact abandonRead_only s r ch
  case stepHead h => exact stepHead_only s h
  case stepGates => exact stepGates_only s
  case expireGrant => exact expireGrant_only s
  case strayEdge => exact bump_only s _
  case createRecord => exact createRecord_only s
  case arrival r b _ _ => exact arrival_only s r b
  case pass x r _ noBin _ _ => exact matched_pass_only s r noBin
  case trailAtI t => exact trailAtI_only s t
  case completeRead r ch _ => exact completeRead_only s r ch
  case completeOverrun r _ => exact completeOverrun_only s r
  case countStall => exact countStall_only s
  case expireStall => exact expireStall_only s
  case judgeGrant => exact judgeGrant_only s
  case finishDrain => exact finishDrain_only s
  case finishSwap => exact finishSwap_only s
  case finishWait => exact finishWait_only s
  case abort x call k _ => exact (abortEffect_only k s).trans (complete_only _ x call _)
  case start | standby | resume => exact setLine_only s _
  case startFromStandby => exact (setLine_only s .running).trans (setTraining_only { s with line := .running } _)
  case release call _ => exact (setRelease_only s _).trans (takeOff_only _ .feed call _)
  case drainAtOnce => exact (setLine_only s .idle).trans (setTimer_only { s with line := .idle } _)
  case drain call _ _ => exact (setLine_only s _).trans (takeOff_only _ .feed call _)
  case loadMark call l => exact takeOff_only s .print call _
  case takeOnline h => exact takeOnline_only s h
  case takeOffline h => exact takeOffline_only s h
  case setParam p v _ => exact writeParam_only s p _
  case snapshot =>
    intro q absent
    cases q
    case snapshot => exact absurd (by simp) absent
    all_goals rfl
  case clearTallies =>
    intro q absent
    cases q
    case live | throughput => exact absurd (by simp) absent
    all_goals rfl
  case blockRead call k _ _ => exact takeOff_only s .super call k
  case withhold b _ _ => exact setBin_only s b _
  case swapTray call b _ _ => exact (setBin_only s b _).trans (takeOff_only _ .super call _)
  case trayReady b _ => exact setBin_only s b _
  case purge => exact purgeTrack_only s
  case nextStage x k l _ _ => exact setFlight_only s x l
  case endBlock x k code _ _ => exact completeFlight_only s x code

/-! ### Chains of acts -/

/-- A chain of acts. -/
def Acts : State → State → Prop := Relation.ReflTransGen fun s t => ∃ fs, Act fs s t

theorem Acts.refl (s : State) : Acts s s := Relation.ReflTransGen.refl

theorem Acts.trans {s t u : State} (st : Acts s t) (tu : Acts t u) : Acts s u := Relation.ReflTransGen.trans st tu

theorem Act.acts {fs : List Part} {s t : State} (act : Act fs s t) : Acts s t := Relation.ReflTransGen.single ⟨fs, act⟩

/-- What every act keeps, a chain of acts keeps. -/
theorem Acts.keeps {P : State → Prop} (each : ∀ fs s t, Act fs s t → P s → P t) {s t : State} (acts : Acts s t)
    (start : P s) : P t := by
  induction acts with
  | refl => exact start
  | tail _ last ih =>
    obtain ⟨fs, act⟩ := last
    exact each fs _ _ act ih

/-- A change of quiet parts alone. -/
theorem Only.acts {fs : List Part} {s t : State} (only : Only fs s t) (sub : ∀ p ∈ fs, p ∈ quietParts := by simp) :
    Acts s t := (Act.quiet (only.mono sub)).acts

/-- A port's lines, code, notices, mask, held access and data byte are quiet. -/
theorem port_quiet (x : PortId) :
    ∀ p ∈ [Part.code x, .xdone x, .xcall x, .flags x, .mask x, .held x, .out x], p ∈ quietParts := by
  cases x <;> simp

theorem Only.port_acts {fs : List Part} {s t : State} {x : PortId} (only : Only fs s t)
    (sub : ∀ p ∈ fs, p ∈ [Part.code x, .xdone x, .xcall x, .flags x, .mask x, .held x, .out x] := by simp) : Acts s t :=
  (Act.quiet (only.mono fun p mem => port_quiet x p (sub p mem))).acts

/-! ### Transport and time events -/

section
variable (s : State)

theorem missingCheck_acts : Acts s s.missingCheck := by
  unfold State.missingCheck
  split
  · split
    · exact Acts.refl s
    · split
      · exact Acts.refl s
      · exact (Act.jam .missing _).acts
  · exact Acts.refl s

theorem abandonIfDue_acts : Acts s s.abandonIfDue := by
  unfold State.abandonIfDue
  split
  next r ch read =>
    split
    · exact (Act.abandonRead r ch read).acts
    · exact Acts.refl s
  next => exact Acts.refl s

theorem encoder_acts (z : Samples) : Acts s (s.encoder z) :=
  Acts.trans Act.advance.acts <| (missingCheck_acts _).trans <| Acts.trans Act.wake.acts <|
    (retire_only _).acts.trans <| Acts.trans Act.expireGrant.acts <| Acts.trans (Act.useSamples _ z).acts <|
    (abandonIfDue_acts _).trans <| Acts.trans (Act.stepHead .high).acts <| Acts.trans (Act.stepHead .low).acts <|
    (stepFlip_only _).acts.trans Act.stepGates.acts

theorem strayJam_acts (x : Cell) : Acts s (s.strayJam x) := Acts.trans Act.strayEdge.acts (Act.jam .stray x).acts

theorem leadAtI_acts : Acts s s.leadAtI := by
  unfold State.leadAtI
  split
  next g granted =>
    split
    · exact (Act.createRecord g granted).acts
    · exact strayJam_acts s .i
  next => exact strayJam_acts s .i

theorem cellBin_eq_some {x : Cell} {b : Bin} (named : cellBin x = some b) : x = binCell b := by
  cases x <;> simp_all [cellBin] <;> subst named <;> rfl

theorem matched_acts {x : Cell} {r : Record} (mem : r ∈ s.track) (next : r.next = some x) (moving : Moving s) :
    Acts s (s.matched x r) := by
  cases named : cellBin x with
  | some b =>
    have arrives : s.matched x r = s.arrival r b := by rw [State.matched, named]
    rw [arrives]
    exact (Act.arrival r b mem (cellBin_eq_some named ▸ next)).acts
  | none => exact (Act.pass x r mem next named moving).acts

theorem matchEdge_acts (x : Cell) (moving : Moving s) : Acts s (s.matchEdge x) := by
  unfold State.matchEdge
  split
  · exact strayJam_acts s x
  next r found =>
    split
    · exact matched_acts s (List.mem_of_find?_eq_some found) (by simpa using List.find?_some found) moving
    · exact strayJam_acts s x

theorem judgeLead_acts (x : Cell) : Acts s (s.judgeLead x) := by
  unfold State.judgeLead
  split
  next running =>
    split
    · exact leadAtI_acts s
    · exact matchEdge_acts s x (.inl running)
  next draining =>
    split
    · exact leadAtI_acts s
    · exact matchEdge_acts s x (.inr draining)
  · exact Act.strayEdge.acts
  · exact Act.strayEdge.acts
  · exact Acts.refl s

theorem lead_acts (x : Cell) : Acts s (s.lead x) := by
  unfold State.lead
  split
  · exact Acts.refl s
  · exact (setLevel_only s x .blocked).acts.trans (judgeLead_acts _ x)

theorem endRead_acts (t : Tag) : Acts s (s.endRead t) := by
  unfold State.endRead
  split
  next r ch read =>
    split
    · exact (Act.completeRead r ch read).acts
    · exact Acts.refl s
  next r read =>
    split
    · exact (Act.completeOverrun r read).acts
    · exact Acts.refl s
  next => exact Acts.refl s

theorem judgeTrail_acts (x : Cell) : Acts s (s.judgeTrail x) := by
  unfold State.judgeTrail
  split
  · split
    · exact Acts.refl s
    · exact (Act.trailAtI _).acts
  · split
    · exact Acts.refl s
    · exact (setROcc_only s none).acts.trans (endRead_acts _ _)
  · exact Acts.refl s

theorem trail_acts (x : Cell) : Acts s (s.trail x) := by
  unfold State.trail
  split
  · exact Acts.refl s
  · dsimp only
    split
    · exact (setLevel_only s x .clear).acts.trans (judgeTrail_acts _ x)
    · exact (setLevel_only s x .clear).acts

theorem timeBase_acts : Acts s s.timeBase :=
  Acts.trans Act.countStall.acts <| Acts.trans Act.expireStall.acts <|
    (countInterval_only _).acts.trans (endInterval_only _).acts

theorem stallExpiry_acts : Acts s s.stallExpiry := by
  unfold State.stallExpiry
  split
  · exact timeBase_acts s
  · exact Acts.refl s

theorem intervalExpiry_acts : Acts s s.intervalExpiry := by
  unfold State.intervalExpiry
  split
  · exact timeBase_acts s
  · exact Acts.refl s

theorem setResetLevel_only (asserted : Bool) : Only [.resetLevel] s { s with resetLevel := asserted } := by
  intro q absent
  cases q
  case resetLevel => exact absurd (by simp) absent
  all_goals rfl

theorem resetInput_acts (asserted : Bool) : Acts s (s.resetInput asserted) := by
  unfold State.resetInput
  dsimp only
  split
  · exact (setResetLevel_only s asserted).acts.trans (Act.lineReset .lineInput).acts
  · exact (setResetLevel_only s asserted).acts

theorem completions_acts : Acts s s.completions :=
  Acts.trans Act.finishDrain.acts <| Acts.trans Act.finishSwap.acts Act.finishWait.acts

end

/-! ### Commands taken -/

section
variable (s : State) (x : PortId)

theorem dropOperand_acts : Acts s (s.dropOperand x) :=
  (Act.ring x _ fun whole => (ringTake_length _).trans whole).acts

theorem push_acts (bs : List Byte) : Acts s (s.push x bs) :=
  (Act.ring x _ fun whole => (ringPushAll_length bs _ (List.ne_nil_of_length_pos (by omega))).trans whole).acts

@[simp] theorem dropOperand_flight : ((s.dropOperand x).port x).inFlight = (s.port x).inFlight := by
  simp [State.dropOperand]

@[simp] theorem push_flight (bs : List Byte) : ((s.push x bs).port x).inFlight = (s.port x).inFlight := by
  simp [State.push]

theorem setFlags_acts (v : Byte) : Acts s (s.setPort x { s.port x with flags := v }) :=
  Only.port_acts (x := x) (fs := [.flags x]) (setPort_only s _ x _)

theorem setMask_acts (v : Byte) : Acts s (s.setPort x { s.port x with mask := v }) :=
  Only.port_acts (x := x) (fs := [.mask x]) (setPort_only s _ x _)

variable {s x}

/-- A command that completes as it is taken leaves no command in flight, as it found none (R161, R163). -/
theorem complete_acts (free : (s.port x).inFlight = none) (call : Bool) (c : Code) : Acts s (s.complete x call c) := by
  refine Only.port_acts (x := x) (fs := [.code x, .xdone x, .xcall x]) ?_
  exact setPort_only s _ x _ (flight := .inr free.symm) (ring := .inr rfl) (code := .inl (by simp))
    (xdone := .inl (by simp)) (xcall := .inl (by simp)) (flags := .inr rfl) (mask := .inr rfl) (held := .inr rfl)
    (out := .inr rfl)

/-- An act before a completion that does not touch the flight at the port. -/
theorem acts_complete {t : State} (acts : Acts s t) (free : (t.port x).inFlight = none) (call : Bool) (c : Code) :
    Acts s (t.complete x call c) := acts.trans (complete_acts free call c)

/-- A footprint without the flight of a port keeps the port free. -/
theorem Only.free {fs : List Part} {t : State} (only : Only fs s t) (free : (s.port x).inFlight = none)
    (absent : .flight x ∉ fs := by simp) : (t.port x).inFlight = none :=
  (show (t.port x).inFlight = (s.port x).inFlight from only (.flight x) absent).trans free

end

theorem setSort_only (s : State) (v : Vector SortEntry 9) : Only [.sort] s { s with sort := v } := by
  intro q absent
  cases q
  case sort => exact absurd (by simp) absent
  all_goals rfl

section
variable {s : State} {x : PortId} (call : Bool) (free : (s.port x).inFlight = none)
include free

theorem cmdAckNotice_acts : Acts s (cmdAckNotice x call s) := by
  have taken := (dropOperand_acts s x).trans (push_acts (s.dropOperand x) x [(s.port x).flags])
  unfold cmdAckNotice
  refine acts_complete (taken.trans (setFlags_acts _ x _)) ?_ call .done
  simp [free]

theorem cmdSetNoticeMask_acts : Acts s (cmdSetNoticeMask x call s) := by
  unfold cmdSetNoticeMask
  refine acts_complete ((dropOperand_acts s x).trans (setMask_acts _ x _)) ?_ call .done
  simp [free]

theorem cmdStart_acts : Acts s (cmdStart x call s) := by
  unfold cmdStart
  split
  next line => exact acts_complete (Act.start line).acts ((Act.start line).only.free free) call .done
  next line =>
    exact acts_complete (Act.startFromStandby line).acts ((Act.startFromStandby line).only.free free) call .done
  all_goals exact complete_acts free call .wrongState

theorem cmdStandby_acts : Acts s (cmdStandby x call s) := by
  unfold cmdStandby
  split
  next line => exact acts_complete (Act.standby line).acts ((Act.standby line).only.free free) call .done
  next => exact complete_acts free call .wrongState

theorem cmdReadHeads_acts : Acts s (cmdReadHeads x call s) := acts_complete (push_acts s x _) (by simp [free]) call .done

theorem cmdHeadOnline_acts : Acts s (cmdHeadOnline x call s) := by
  have drop := dropOperand_acts s x
  unfold cmdHeadOnline
  dsimp only
  split
  · exact acts_complete drop (by simp [free]) call .badOperand
  next h _ =>
    exact acts_complete (drop.trans (Act.takeOnline h).acts) ((Act.takeOnline h).only.free (by simp [free])) call .done

theorem cmdHeadOffline_acts : Acts s (cmdHeadOffline x call s) := by
  have drop := dropOperand_acts s x
  unfold cmdHeadOffline
  dsimp only
  split
  · exact acts_complete drop (by simp [free]) call .badOperand
  next h _ =>
    exact acts_complete (drop.trans (Act.takeOffline h).acts) ((Act.takeOffline h).only.free (by simp [free])) call .done

theorem setParam_acts (p : ParamId) (v : Nat) : Acts s (s.setParam x call p v) := by
  unfold State.setParam
  dsimp only
  split
  · exact complete_acts free call .notPermitted
  · split
    · exact complete_acts free call .wrongState
    · split
      next consistent =>
        exact acts_complete (Act.setParam p v consistent).acts ((Act.setParam p v consistent).only.free free) call _
      next => exact complete_acts free call .badConfig

theorem cmdSetParameter_acts : Acts s (cmdSetParameter x call s) := by
  have drop := ((dropOperand_acts s x).trans (dropOperand_acts _ x)).trans (dropOperand_acts _ x)
  unfold cmdSetParameter
  dsimp only
  split
  · exact acts_complete drop (by simp [free]) call .badOperand
  · exact drop.trans (setParam_acts call (by simp [free]) _ _)

theorem cmdReadParameter_acts : Acts s (cmdReadParameter x call s) := by
  have drop := dropOperand_acts s x
  unfold cmdReadParameter
  dsimp only
  split
  · exact acts_complete drop (by simp [free]) call .badOperand
  · exact acts_complete (drop.trans (push_acts _ x _)) (by simp [free]) call .done

theorem cmdSetSortEntry_acts : Acts s (cmdSetSortEntry x call s) := by
  have drop := (((dropOperand_acts s x).trans (dropOperand_acts _ x)).trans (dropOperand_acts _ x)).trans
    (dropOperand_acts _ x)
  unfold cmdSetSortEntry
  dsimp only
  split
  · exact acts_complete (drop.trans (setSort_only _ _).acts) ((setSort_only _ _).free (by simp [free])) call .done
  · exact acts_complete drop (by simp [free]) call .badOperand

theorem cmdReadSortEntry_acts : Acts s (cmdReadSortEntry x call s) := by
  have drop := dropOperand_acts s x
  unfold cmdReadSortEntry
  dsimp only
  split
  · exact acts_complete drop (by simp [free]) call .badOperand
  · exact acts_complete (drop.trans (push_acts _ x _)) (by simp [free]) call .done

theorem cmdSnapshotTallies_acts : Acts s (cmdSnapshotTallies x call s) :=
  acts_complete Act.snapshot.acts (Act.snapshot.only.free free) call .done

theorem cmdClearTallies_acts : Acts s (cmdClearTallies x call s) := by
  unfold cmdClearTallies
  split
  next rest => exact acts_complete (Act.clearTallies rest).acts ((Act.clearTallies rest).only.free free) call .done
  next => exact complete_acts free call .wrongState

theorem cmdTrayReady_acts : Acts s (cmdTrayReady x call s) := by
  have drop := dropOperand_acts s x
  unfold cmdTrayReady
  dsimp only
  split
  · exact acts_complete drop (by simp [free]) call .badOperand
  next b _ =>
    split
    next away =>
      exact acts_complete (drop.trans (Act.trayReady b away).acts) ((Act.trayReady b away).only.free (by simp [free]))
        call .done
    next => exact acts_complete drop (by simp [free]) call .wrongState

theorem cmdReadPiece_acts : Acts s (cmdReadPiece x call s) := by
  have drop := dropOperand_acts s x
  unfold cmdReadPiece
  dsimp only
  split
  · exact acts_complete drop (by simp [free]) call .notFound
  · exact acts_complete (drop.trans (push_acts _ x _)) (by simp [free]) call .done

theorem cmdReadLine_acts : Acts s (cmdReadLine x call s) := acts_complete (push_acts s x _) (by simp [free]) call .done

theorem cmdPurge_acts : Acts s (cmdPurge x call s) := by
  unfold cmdPurge
  split
  next line => exact acts_complete (Act.purge line).acts ((Act.purge line).only.free free) call .done
  next => exact complete_acts free call .wrongState

theorem cmdResume_acts : Acts s (cmdResume x call s) := by
  unfold cmdResume
  split
  next due =>
    obtain ⟨line, track⟩ := due
    exact acts_complete (Act.resume line track).acts ((Act.resume line track).only.free free) call .done
  next => exact complete_acts free call .wrongState

end

theorem cmdLineReset_acts (s : State) (x : PortId) (call : Bool) : Acts s (cmdLineReset x call s) :=
  acts_complete (Act.lineReset .lineCommand).acts (by cases x <;> rfl) call .done

theorem cmdAbort_acts (s : State) (x : PortId) (call : Bool) : Acts s (cmdAbort x call s) := by
  unfold cmdAbort
  split
  next none => exact complete_acts (Option.map_eq_none_iff.mp none) call .done
  next k flight => exact (Act.abort x call k flight).acts

/-! Commands listed for one port, that can stay in flight there. -/

section
variable {s : State} (call : Bool)

theorem cmdRelease_acts (free : (s.port .feed).inFlight = none) : Acts s (cmdRelease .feed call s) := by
  unfold cmdRelease
  split
  next line => exact (Act.release call line).acts
  next => exact complete_acts free call .wrongState

theorem cmdDrain_acts (free : (s.port .feed).inFlight = none) : Acts s (cmdDrain .feed call s) := by
  unfold cmdDrain
  split
  next line =>
    split
    next due =>
      obtain ⟨empty, unasked⟩ : s.track = [] ∧ s.release = .none := by simpa using due
      have drained := Act.drainAtOnce line empty unasked
      exact acts_complete drained.acts (drained.only.free (x := .feed) free) call .done
    next => exact (Act.drain call line free).acts
  next => exact complete_acts free call .wrongState

theorem beginLoad_acts (s : State) (n : Fin 4) (count : Nat) (clamped : Bool) :
    Acts s (s.beginLoad .print call n count clamped) :=
  (setSlot_only s n _).acts.trans (Act.loadMark call _).acts

theorem cmdLoadMark_acts (free : (s.port .print).inFlight = none) : Acts s (cmdLoadMark .print call s) := by
  have drop := (dropOperand_acts s .print).trans (dropOperand_acts _ .print)
  unfold cmdLoadMark
  dsimp only
  split
  · exact drop.trans (beginLoad_acts call _ _ _ _)
  · exact acts_complete drop (by rw [dropOperand_flight, dropOperand_flight]; exact free) call .badOperand

theorem cmdReadTallies_acts (free : (s.port .super).inFlight = none) : Acts s (cmdReadTallies .super call s) := by
  have drop := (dropOperand_acts s .super).trans (dropOperand_acts _ .super)
  have still : (((s.dropOperand .super).dropOperand .super).port .super).inFlight = none := by
    rw [dropOperand_flight, dropOperand_flight]; exact free
  unfold cmdReadTallies
  dsimp only
  split
  · exact drop.trans (Act.blockRead call _ (.inl ⟨_, _, _, _, rfl⟩) still).acts
  · exact acts_complete drop still call .badOperand

theorem cmdReadThroughput_acts (free : (s.port .super).inFlight = none) : Acts s (cmdReadThroughput .super call s) :=
  (Act.blockRead call _ (.inr ⟨_, rfl⟩) free).acts

theorem cmdReadBins_acts (free : (s.port .super).inFlight = none) : Acts s (cmdReadBins .super call s) :=
  (Act.blockRead call _ (.inr ⟨_, rfl⟩) free).acts

theorem swap_acts (free : (s.port .super).inFlight = none) (b : Bin) : Acts s (s.swap .super call b) := by
  unfold State.swap
  split
  · exact complete_acts free call .targetBusy
  next here =>
    split
    next unbound =>
      exact acts_complete (Act.withhold b here unbound).acts ((Act.withhold b here unbound).only.free (x := .super) free)
        call .done
    next => exact (Act.swapTray call b here free).acts

theorem cmdSwapTray_acts (free : (s.port .super).inFlight = none) : Acts s (cmdSwapTray .super call s) := by
  have drop := dropOperand_acts s .super
  have still : ((s.dropOperand .super).port .super).inFlight = none := by rw [dropOperand_flight]; exact free
  unfold cmdSwapTray
  dsimp only
  split
  · exact acts_complete drop still call .badOperand
  · exact drop.trans (swap_acts call still _)

end

/-- A command of the table, taken at a port that lists it and, but for ABORT, has none in flight, is a chain of acts. -/
theorem runCmd_acts {s : State} {c : Cmd} {x : PortId} (call : Bool) (listed : allowedAt c x = true)
    (free : c ≠ .abort → (s.port x).inFlight = none) : Acts s (runCmd c x call s) := by
  cases c with
  | abort => exact cmdAbort_acts s x call
  | ackNotice => exact cmdAckNotice_acts call (free (by decide))
  | setNoticeMask => exact cmdSetNoticeMask_acts call (free (by decide))
  | start => exact cmdStart_acts call (free (by decide))
  | release =>
    obtain rfl : x = .feed := by simpa [allowedAt] using listed
    exact cmdRelease_acts call (free (by decide))
  | drain =>
    obtain rfl : x = .feed := by simpa [allowedAt] using listed
    exact cmdDrain_acts call (free (by decide))
  | standby => exact cmdStandby_acts call (free (by decide))
  | loadMark =>
    obtain rfl : x = .print := by simpa [allowedAt] using listed
    exact cmdLoadMark_acts call (free (by decide))
  | headOnline => exact cmdHeadOnline_acts call (free (by decide))
  | headOffline => exact cmdHeadOffline_acts call (free (by decide))
  | readHeads => exact cmdReadHeads_acts call (free (by decide))
  | setParameter => exact cmdSetParameter_acts call (free (by decide))
  | readParameter => exact cmdReadParameter_acts call (free (by decide))
  | setSortEntry => exact cmdSetSortEntry_acts call (free (by decide))
  | readSortEntry => exact cmdReadSortEntry_acts call (free (by decide))
  | snapshotTallies => exact cmdSnapshotTallies_acts call (free (by decide))
  | readTallies =>
    obtain rfl : x = .super := by simpa [allowedAt] using listed
    exact cmdReadTallies_acts call (free (by decide))
  | clearTallies => exact cmdClearTallies_acts call (free (by decide))
  | readThroughput =>
    obtain rfl : x = .super := by simpa [allowedAt] using listed
    exact cmdReadThroughput_acts call (free (by decide))
  | swapTray =>
    obtain rfl : x = .super := by simpa [allowedAt] using listed
    exact cmdSwapTray_acts call (free (by decide))
  | trayReady => exact cmdTrayReady_acts call (free (by decide))
  | readBins =>
    obtain rfl : x = .super := by simpa [allowedAt] using listed
    exact cmdReadBins_acts call (free (by decide))
  | readPiece => exact cmdReadPiece_acts call (free (by decide))
  | readLine => exact cmdReadLine_acts call (free (by decide))
  | purge => exact cmdPurge_acts call (free (by decide))
  | resume => exact cmdResume_acts call (free (by decide))
  | lineReset => exact cmdLineReset_acts s x call

/-! ### Accesses -/

section
variable {s : State} {x : PortId}

theorem drive_acts (b : Byte) : Acts s (s.drive x b) :=
  Only.port_acts (x := x) (fs := [.out x]) (setPort_only s _ x _)

theorem drive_flight (b : Byte) : (s.drive x b).flight x = s.flight x := by simp [State.flight, State.drive]

theorem nextTallyByte_acts {remaining next pos : Nat} {clamped : Bool} {k : Flight} (flight : s.flight x = some k)
    (block : IsBlockRead k) : Acts s (s.nextTallyByte x remaining next pos clamped) := by
  unfold State.nextTallyByte
  split
  · exact (Act.nextStage x k _ flight (.inr ⟨block, .inl ⟨_, _, _, _, rfl⟩⟩)).acts
  · split
    · exact (Act.endBlock x k _ flight (.inr block)).acts
    · exact (Act.nextStage x k _ flight (.inr ⟨block, .inl ⟨_, _, _, _, rfl⟩⟩)).acts

theorem nextBlockByte_acts {rest : List Byte} {k : Flight} (flight : s.flight x = some k) (block : IsBlockRead k) :
    Acts s (s.nextBlockByte x rest) := by
  cases rest with
  | nil => exact (Act.endBlock x k .done flight (.inr block)).acts
  | cons => exact (Act.nextStage x k _ flight (.inr ⟨block, .inr ⟨_, rfl⟩⟩)).acts

theorem blockRead_acts : Acts s (s.blockRead x) := by
  unfold State.blockRead
  split
  next flight =>
    exact (drive_acts _).trans (nextTallyByte_acts ((drive_flight _).trans flight) (.inl ⟨_, _, _, _, rfl⟩))
  next flight =>
    exact (drive_acts _).trans (nextBlockByte_acts ((drive_flight _).trans flight) (.inr ⟨_, rfl⟩))
  next => exact drive_acts 0

theorem setSlot_flight (n : Fin 4) (m : Slot) : (s.setSlot n m).flight x = s.flight x := by simp [State.flight]

theorem loadByte_acts {l : Load} {remaining next : Nat} {first : Option Byte} {b : Byte}
    (flight : s.flight x = some (.loadMark l)) : Acts s (s.loadByte x l remaining next first b) := by
  have same (m : Load) : SameFlight (.loadMark l) (.loadMark m) := .inl ⟨l, m, rfl, rfl⟩
  unfold State.loadByte
  split
  · exact (Act.nextStage x _ _ flight (same _)).acts
  next hi =>
    have wrote : Acts s (s.writeColumn l.slot l.bank next (hi ++ b)) := (setSlot_only s _ _).acts
    have still : (s.writeColumn l.slot l.bank next (hi ++ b)).flight x = some (.loadMark l) :=
      (setSlot_flight _ _).trans flight
    dsimp only
    split
    · exact (wrote.trans (setSlot_only _ _ _).acts).trans
        (Act.endBlock x _ _ ((setSlot_flight _ _).trans still) (.inl ⟨l, rfl⟩)).acts
    · exact wrote.trans (Act.nextStage x _ _ still (same _)).acts

theorem blockWrite_acts (b : Byte) : Acts s (s.blockWrite x b) := by
  unfold State.blockWrite
  split
  next flight =>
    split
    · exact loadByte_acts flight
    · exact Acts.refl s
  next => exact Acts.refl s

theorem ringWrite_acts (b : Byte) : Acts s (s.ringWrite x b) :=
  (Act.ring x _ fun whole => (ringPush_length b _ (List.ne_nil_of_length_pos (by omega))).trans whole).acts

theorem ringRead_acts : Acts s (s.ringRead x) := by
  have rotated := Act.ring (s := s) x (ringRotate (s.port x).ring) fun whole => (ringRotate_length _).trans whole
  refine rotated.acts.trans (Only.port_acts (x := x) (fs := [.out x]) ?_)
  have out := setPort_only (s.setPort x { s.port x with ring := ringRotate (s.port x).ring }) [.out x] x
    { s.port x with ring := ringRotate (s.port x).ring, out := ringTop (s.port x).ring }
  rw [State.setPort_setPort] at out
  exact out

theorem cmdOfByte_abort_of_busy {p : Port} {b : Byte} {c : Cmd} (takes : p.takes (.commandWrite b) = true)
    (named : cmdOfByte b = some c) (other : c ≠ .abort) : p.inFlight = none := by
  simpa [Port.takes, Port.busy, named, other] using takes

theorem unnamed_of_busy {p : Port} {b : Byte} (takes : p.takes (.commandWrite b) = true)
    (unnamed : cmdOfByte b = none) : p.inFlight = none := by
  simpa [Port.takes, Port.busy, unnamed] using takes

theorem allowedAt_abort (x : PortId) : allowedAt .abort x = true := rfl

theorem takeCommand_acts {b : Byte} (takes : (s.port x).takes (.commandWrite b) = true) : Acts s (s.takeCommand x b) := by
  unfold State.takeCommand
  split
  next unnamed => exact complete_acts (unnamed_of_busy takes unnamed) _ .unknownCommand
  next c named =>
    split
    next listed => exact runCmd_acts _ listed fun other => cmdOfByte_abort_of_busy takes named other
    next unlisted =>
      have other : c ≠ .abort := fun abort => unlisted (abort ▸ allowedAt_abort x)
      exact complete_acts (cmdOfByte_abort_of_busy takes named other) _ .notPermitted

/-- An access a port takes is a chain of acts (R160 to R163). -/
theorem takeAccess_acts {a : Access} (takes : (s.port x).takes a = true) : Acts s (s.takeAccess x a) := by
  have cleared : Acts s (s.setPort x { s.port x with xdone := false }) :=
    Only.port_acts (x := x) (fs := [.xdone x]) (setPort_only s _ x _)
  refine cleared.trans ?_
  unfold State.takeAccess
  cases a with
  | dataWrite b =>
    dsimp only
    split
    · exact blockWrite_acts b
    · exact ringWrite_acts b
  | dataRead =>
    dsimp only
    split
    · exact blockRead_acts
    · exact ringRead_acts
  | statusRead => exact drive_acts _
  | commandWrite b => exact takeCommand_acts (by simpa [Port.takes, Port.busy] using takes)

theorem setHeld_acts (a : Option Access) : Acts s (s.setPort x { s.port x with held := a }) :=
  Only.port_acts (x := x) (fs := [.held x]) (setPort_only s _ x _)

theorem access_acts (a : Access) : Acts s (s.access x a) := by
  unfold State.access
  split
  · exact Acts.refl s
  · split
    next takes => exact takeAccess_acts takes
    next => exact setHeld_acts (some a)

end

/-! ### What follows an event -/

section
variable {s : State} {x : PortId}

theorem takes_held (p : Port) (a : Access) (h : Option Access) : Port.takes { p with held := h } a = p.takes a := by
  cases a <;> rfl

theorem takeHeld_acts (ready : (s.port x).ready = true) : Acts s (s.takeHeld x) := by
  unfold State.takeHeld
  split
  · exact Acts.refl s
  next a held =>
    have takes : (s.port x).takes a = true := by simpa [Port.ready, held] using ready
    exact (setHeld_acts none).trans (takeAccess_acts (by rwa [State.setPort_port, takes_held]))

theorem mem_readyPorts : x ∈ s.readyPorts ↔ (s.port x).ready = true := by
  unfold State.readyPorts
  cases x <;> simp

theorem setFreeCount_only (s : State) (n : Nat) : Only [.freeCount] s { s with freeCount := n } := by
  intro q absent
  cases q
  case freeCount => exact absurd (by simp) absent
  all_goals rfl

/-- The port whose held access is taken next: the only one that can, or the one `heldOrder` picks (notes/assumptions/8.md). -/
theorem takeOneHeld_cases (s : State) :
    (s.readyPorts = [] ∧ s.takeOneHeld = s) ∨
      (∃ x, s.readyPorts = [x] ∧ s.takeOneHeld = (s.takeHeld x).completions) ∨
      ∃ x, x ∈ s.readyPorts ∧ 2 ≤ s.readyPorts.length ∧
        s.takeOneHeld = (State.takeHeld { s with freeCount := s.freeCount + 1 } x).completions := by
  unfold State.takeOneHeld
  split
  next none => exact .inl ⟨none, rfl⟩
  next x one => exact .inr (.inl ⟨x, one, rfl⟩)
  next x l _ several =>
    refine .inr (.inr ⟨_, ?_, ?_, rfl⟩)
    · rw [several]
      have inside : Config.heldOrder s.freeCount % (x :: l).length < (x :: l).length := Nat.mod_lt _ (by simp)
      rw [List.getD_eq_getElem _ _ inside]
      exact List.getElem_mem inside
    · rw [several]
      cases l with
      | nil => simp_all
      | cons => simp

theorem takeOneHeld_acts : Acts s s.takeOneHeld := by
  rcases takeOneHeld_cases s with ⟨-, same⟩ | ⟨x, one, next⟩ | ⟨x, mem, -, next⟩
  · rw [same]
    exact Acts.refl s
  · rw [next]
    exact (takeHeld_acts (mem_readyPorts.mp (one ▸ List.mem_singleton_self x))).trans (completions_acts _)
  · rw [next]
    refine ((setFreeCount_only s (s.freeCount + 1)).acts.trans (takeHeld_acts ?_)).trans (completions_acts _)
    exact mem_readyPorts.mp mem

theorem takeAllHeld_acts (s : State) : Acts s s.takeAllHeld :=
  (takeOneHeld_acts.trans takeOneHeld_acts).trans takeOneHeld_acts

theorem settle_acts (s : State) : Acts s s.settle :=
  (((completions_acts s).trans (takeAllHeld_acts _)).trans Act.judgeGrant.acts).trans (takeAllHeld_acts _)

end

/-! ### Steps -/

/-- Every command answers a next state: a chain of acts is its own effect, and what follows is settled (log 14). -/
theorem exec_eq_settle (c : Instr) (s : State) : ∃ u, exec c s = .next u.settle ∧ Acts s u := by
  cases c
  case powerOn cells asserted => exact ⟨_, rfl, (Act.powerOn cells asserted).acts⟩
  case resetInput asserted => exact ⟨_, rfl, resetInput_acts s asserted⟩
  case encoderStep z => exact ⟨_, rfl, encoder_acts s z⟩
  case leadEdge x => exact ⟨_, rfl, lead_acts s x⟩
  case trailEdge x => exact ⟨_, rfl, trail_acts s x⟩
  case timeBaseExpiry => exact ⟨_, rfl, timeBase_acts s⟩
  case stall => exact ⟨_, rfl, stallExpiry_acts s⟩
  case intervalEnd => exact ⟨_, rfl, intervalExpiry_acts s⟩
  case feedMiss => exact ⟨_, rfl, Act.expireGrant.acts⟩
  case grant => exact ⟨_, rfl, Act.judgeGrant.acts⟩
  case abandonment => exact ⟨_, rfl, abandonIfDue_acts s⟩
  case drainComplete => exact ⟨_, rfl, Act.finishDrain.acts⟩
  case swapComplete => exact ⟨_, rfl, Act.finishSwap.acts⟩
  case referenceWaitEnd => exact ⟨_, rfl, Act.finishWait.acts⟩
  case xdclrPulse x => exact ⟨_, rfl, Only.port_acts (x := x) (fs := [.xdone x]) (setPort_only s _ x _)⟩
  case xcclrPulse x => exact ⟨_, rfl, Only.port_acts (x := x) (fs := [.xcall x]) (setPort_only s _ x _)⟩
  all_goals exact ⟨_, rfl, access_acts _⟩

/-- What a command answers is reached by a chain of acts. -/
theorem exec_acts {c : Instr} {s t : State} (next : exec c s = .next t) : Acts s t := by
  obtain ⟨u, answer, acts⟩ := exec_eq_settle c s
  rw [answer] at next
  cases next
  exact acts.trans (settle_acts u)

/-- An invariant that every act keeps, and that does not see the queue, is kept by every step. -/
theorem step_keeps {P : State → Prop} (each : ∀ fs s t, Act fs s t → P s → P t)
    (queue : ∀ s l, P s → P { s with pending := l }) : ∀ s t, P s → step s = .next t → P t := by
  intro s t start next
  unfold step at next
  split at next
  · cases next
    exact start
  · exact (exec_acts next).keeps each (queue s _ start)

theorem Act.pending_notMem {fs : List Part} {s t : State} (act : Act fs s t) : .pending ∉ fs := by
  cases act <;> simp

/-- Settles O2: a command is a chain of acts, none of which has the queue in its footprint. -/
theorem everyCommandAnswersAndKeepsTheQueue : Obligations.EveryCommandAnswersAndKeepsTheQueue := by
  intro c s
  obtain ⟨u, answer, -⟩ := exec_eq_settle c s
  exact ⟨u.settle, answer, (exec_acts answer).keeps (P := fun t => t.pending = s.pending)
    (fun _ _ _ act kept => Eq.trans (act.only .pending act.pending_notMem) kept) rfl⟩

/-- Settles O1: `step` reads the front of the queue. -/
theorem stepTakesTheFrontCommand : Obligations.StepTakesTheFrontCommand := by
  refine ⟨fun c rest s => rfl, fun s empty => ?_⟩
  rw [step, empty]

end Sys2Proof.Proofs
end

section
/-! PROOFS. What every step keeps of the rings (R160), the heads (R91), the parameters, baselines and counts. -/

-- The proofs are elaborated one after another: the check gives each thread a large stack within a fixed memory.
set_option Elab.async false

namespace Sys2Proof.Proofs

open Sys2Proof.Machine
open Sys2Proof.Claims

/-! ### Operand rings (R160) -/

theorem ringsWhole_of_only {fs : List Part} {s t : State} (only : Only fs s t) (absent : ∀ x, .ring x ∉ fs)
    (whole : RingsWhole s) : RingsWhole t := fun x =>
  (congrArg List.length (show (t.port x).ring = (s.port x).ring from only (.ring x) (absent x))).trans (whole x)

theorem act_keeps_rings (fs : List Part) (s t : State) (act : Act fs s t) (whole : RingsWhole s) : RingsWhole t := by
  have only := act.only
  cases act
  case ring x r longer =>
    intro y
    by_cases named : y = x
    · subst named
      rw [State.setPort_port]
      exact longer (whole y)
    · rw [State.setPort_port_ne _ _ named]
      exact whole y
  case powerOn => intro x; cases x <;> rfl
  case lineReset =>
    rw [lineReset_eq_afterLineReset]
    intro x
    have kept := whole x
    cases x <;> exact kept
  all_goals exact ringsWhole_of_only only (by simp) whole

/-- Settles O15: a ring that takes or gives a byte keeps its length. -/
theorem stepsKeepTheRingsWhole : Obligations.StepsKeepTheRingsWhole :=
  step_keeps act_keeps_rings fun _ _ whole => whole

/-! ### Heads (R91) -/

/-- Both heads are sound. -/
def HeadsSound (s : State) : Prop := ∀ h, HeadSound (s.head h)

theorem HeadsSound.of_only {fs : List Part} {s t : State} (sound : HeadsSound s) (only : Only fs s t)
    (absent : ∀ h, .head h ∉ fs := by simp) : HeadsSound t := fun h => by
  rw [show t.head h = s.head h from only (.head h) (absent h)]
  exact sound h

theorem HeadsSound.setHead {s : State} {h : HeadId} {d : Head} (sound : HeadsSound s) (head : HeadSound d) :
    HeadsSound (s.setHead h d) := by
  intro k
  by_cases named : k = h
  · subst named
    rwa [State.setHead_head]
  · rw [State.setHead_head_ne _ _ named]
    exact sound k

theorem emptiedHead_sound {st : HeadState} (idle : st = .offline ∨ st = .free) : HeadSound (emptiedHead st) where
  offline _ := ⟨rfl, rfl, rfl⟩
  order pending := absurd rfl pending
  working busy := by rcases idle with rfl | rfl <;> exact absurd busy (by decide)

theorem afterJam_idle (st : HeadState) : st.afterJam = .offline ∨ st.afterJam = .free := by
  unfold HeadState.afterJam
  split <;> simp

theorem dark_sound {d : Head} (sound : HeadSound d) : HeadSound d.dark where
  offline off := ⟨(sound.offline off).1, (sound.offline off).2.1, rfl⟩
  order := sound.order
  working := sound.working

/-- A head that holds an Active and is not OFFLINE is sound. -/
theorem headSound_of_active {d : Head} (active : d.active ≠ none) (online : d.state ≠ .offline) : HeadSound d where
  offline off := absurd off online
  order _ := active
  working _ := active

theorem fire_sound {s : State} {h : HeadId} {d : Head} (sound : HeadSound d) : HeadSound (s.fire h d) := by
  unfold State.fire
  split
  · exact sound
  next r active =>
    have held : d.active ≠ none := by simp [active]
    split
    · split
      · exact headSound_of_active held (by simp)
      · dsimp only
        split
        · exact headSound_of_active held (by simp)
        · exact headSound_of_active held (by simp)
    · exact sound

theorem moveUp_sound {d : Head} : HeadSound { d.moveUp with state := .free } where
  offline off := absurd off (by simp)
  order pending := absurd rfl pending
  working busy := absurd busy (by simp)

theorem stepHead_sound {s : State} (h : HeadId) (sound : HeadsSound s) : HeadsSound (s.stepHead h) := by
  have dark := dark_sound (sound h)
  unfold State.stepHead
  dsimp only
  split
  · exact sound.setHead dark
  next r active =>
    have held : (s.head h).dark.active ≠ none := by simp [active]
    split
    · exact sound.setHead dark
    · exact sound.setHead (fire_sound dark)
    next marking =>
      refine sound.setHead ?_
      split
      · exact headSound_of_active held (by simp)
      · refine headSound_of_active held ?_
        rw [show (s.output h (s.head h).dark r).state = .marking from marking]
        decide
    · split
      · exact (sound.of_only (countDone_only s r)).setHead (fire_sound moveUp_sound)
      · exact sound.setHead dark

theorem accept_sound {d : Head} {r : Reservation} (online : d.state ≠ .offline) : HeadSound (d.accept r) := by
  unfold Head.accept
  split
  · exact headSound_of_active (by simp) online
  next occupied => exact headSound_of_active (by simpa using occupied) online

theorem requestMark_sound {s : State} (q : MarkRequest) (sound : HeadsSound s) : HeadsSound (s.requestMark q) := by
  have adopted : HeadsSound (s.setSlot q.slot s.store[q.slot].adopt) := sound.of_only (setSlot_only s _ _)
  unfold State.requestMark
  dsimp only
  split
  · exact adopted.of_only (giveUp_only _ _ _)
  next online =>
    split
    · exact adopted.of_only ((giveUp_only _ _ _).trans (raise_only _ .print _))
    · split
      · exact adopted.of_only ((giveUp_only _ _ _).trans (raise_only _ .print _))
      · unfold State.scheduleMark
        split
        · exact adopted.of_only (conflictMark_only _ _)
        · exact (adopted.setHead (accept_sound online)).of_only (setMark_only _ _ _)

theorem plan_sound {s : State} (t : Tag) (v : Verdict) (sound : HeadsSound s) : HeadsSound (s.plan t v) := by
  have answered (s : State) (sound : HeadsSound s) (a : Pos) (k : Classified) (g : GatePlan) (c : Bool) (e : SortEntry)
      (lp : Nat) : HeadsSound (s.planMark t a k g c e lp) := by
    unfold State.planMark
    split
    · split
      · exact requestMark_sound _ sound
      · exact sound.of_only (setMark_only _ _ _)
    · exact sound.of_only (setMark_only _ _ _)
  unfold State.plan
  split
  · exact sound
  · refine (answered _ ?_ _ _ _ _ _ _).of_only
      (((bind_only _ t _ _ _).trans (updRec_only _ [.track, .stages] t _)).trans (driveGate_only _ _))
    exact sound.of_only (planFacing_only s t _ _ _)

theorem reAnchorHead_sound {d : Head} (t : Tag) (p : Pos) (sound : HeadSound d) : HeadSound (d.reAnchor t p).1 := by
  unfold Head.reAnchor
  split
  next held =>
    obtain ⟨r, active⟩ : ∃ r, d.active = some r := by
      cases found : d.active with
      | none => simp [holdsOf, found] at held
      | some r => exact ⟨r, rfl⟩
    have online : d.state ≠ .offline := fun off => by simp [(sound.offline off).1] at active
    have moved : HeadSound { d with active := d.active.map (·.shift p) } :=
      headSound_of_active (by simp [active]) online
    dsimp only
    split
    next pending =>
      split
      · exact headSound_of_active (by simp [Head.moveUp, pending]) online
      · exact moved
    · exact moved
  · split
    next held =>
      obtain ⟨r, pending⟩ : ∃ r, d.pending = some r := by
        cases found : d.pending with
        | none => simp [holdsOf, found] at held
        | some r => exact ⟨r, rfl⟩
      have active : d.active ≠ none := sound.order (by simp [pending])
      have online : d.state ≠ .offline := fun off => by simp [(sound.offline off).2.1] at pending
      dsimp only
      split
      · split
        · exact headSound_of_active active online
        · exact headSound_of_active active online
      · exact headSound_of_active active online
    · exact sound

theorem departHead_sound {d : Head} (t : Tag) (sound : HeadSound d) : HeadSound (d.depart t).1 := by
  unfold Head.depart
  split
  next held =>
    have active : d.active ≠ none := fun none => by simp [holdsOf, none] at held
    have online : d.state ≠ .offline := fun off => active (sound.offline off).1
    refine headSound_of_active (by simpa using active) ?_
    dsimp only
    split
    · decide
    · exact online
  · split
    next held =>
      have pending : d.pending ≠ none := fun none => by simp [holdsOf, none] at held
      exact headSound_of_active (sound.order pending) fun off => pending (sound.offline off).2.1
    · exact sound

theorem moveMark_sound {s : State} (r : Record) (d : Pos) (sound : HeadsSound s) : HeadsSound (s.moveMark r d) := by
  unfold State.moveMark
  split
  next h _ =>
    have moved := sound.setHead (h := h) (reAnchorHead_sound r.tag d (sound h))
    dsimp only
    split
    · exact moved.of_only (conflictMark_only _ _)
    · exact moved
  next => exact sound

theorem departMark_sound {s : State} (r : Record) (sound : HeadsSound s) : HeadsSound (s.departMark r) := by
  unfold State.departMark
  split
  next h _ =>
    have left := sound.setHead (h := h) (departHead_sound r.tag (sound h))
    dsimp only
    split
    · exact left.of_only ((bump_only _ _).trans (raise_only _ .print _))
    · exact left
  next => exact sound

theorem reAnchor_sound {s : State} (r : Record) (n : Nat) (sound : HeadsSound s) : HeadsSound (s.reAnchor r n) := by
  unfold State.reAnchor
  dsimp only
  split
  · exact sound
  · exact moveMark_sound r _ (sound.of_only ((((bump_only s _).trans (updRec_only _ [.track] r.tag _)).trans
      (moveFlip_only _ _ _)).trans (moveGateWindow_only _ _ _)))

theorem matched_sound {s : State} {x : Cell} (r : Record) (noBin : cellBin x = none) (sound : HeadsSound s) :
    HeadsSound (s.matched x r) := by
  have moved := (reAnchor_sound r (cellPosition s.params.geo x) sound).of_only
    (updRec_only _ [.track, .routes, .stages] r.tag fun q => { q with next := nextCheckpoint x r })
  unfold State.matched
  rw [noBin]
  dsimp only
  split
  · exact moved.of_only (startRead_only _ _)
  · exact moved

theorem jamHead_sound {s : State} (h : HeadId) (sound : HeadsSound s) : HeadsSound (s.jamHead h) :=
  (sound.of_only (settleHead_jam_only s h)).setHead (emptiedHead_sound (afterJam_idle _))

theorem jam_sound {s : State} (cause : JamCause) (cell : Cell) (sound : HeadsSound s) : HeadsSound (s.jam cause cell) := by
  have entered := sound.of_only ((enterJam_only s cause cell).trans (jamRead_only _))
  exact (jamHead_sound .low (jamHead_sound .high entered)).of_only ((holdTrack_only _).trans (jamInduction_only _))

theorem act_keeps_heads (fs : List Part) (s t : State) (act : Act fs s t) (sound : HeadsSound s) : HeadsSound t := by
  have only := act.only
  cases act
  case powerOn => intro h; cases h <;> exact emptiedHead_sound (.inl rfl)
  case lineReset => intro h; cases h <;> exact emptiedHead_sound (afterJam_idle _)
  case jam => exact jam_sound _ _ sound
  case abandonRead =>
    exact plan_sound _ _ (sound.of_only ((writeFindings_only s _ _).trans (setRead_only _ _)))
  case completeRead r ch _ =>
    have fixed := updRec_only s [.track] r.tag fun q => { q with lp := some r.count }
    exact plan_sound _ _ (sound.of_only ((fixed.trans (writeFindings_only _ _ _)).trans (setRead_only _ _)))
  case stepHead h => exact stepHead_sound h sound
  case arrival r b _ _ =>
    have counted := sound.of_only ((leaveRead_only s r.tag).trans (countArrival_only _ b r.tag))
    exact (departMark_sound r counted).of_only (removeRec_only _ _)
  case pass r _ noBin _ _ => exact matched_sound r noBin sound
  case takeOnline h =>
    unfold State.takeOnline
    split
    · exact sound.setHead (emptiedHead_sound (.inr rfl))
    · exact sound
  case takeOffline h =>
    unfold State.takeOffline
    split
    · exact sound
    · exact (sound.of_only (settleHead_only s false h)).setHead (emptiedHead_sound (.inl rfl))
  all_goals exact sound.of_only only

/-- Settles O17: each operation of the cancel unit leaves a sound head. -/
theorem stepsKeepTheHeadsSound : Obligations.StepsKeepTheHeadsSound :=
  step_keeps (P := HeadsSound) act_keeps_heads fun _ _ sound => sound

end Sys2Proof.Proofs
end

section
/-! PROOFS. What every step keeps of the parameters (R59, R109, R167, R168), baselines (R56), training counts (R46) and
counters (R136). -/

-- The proofs are elaborated one after another: the check gives each thread a large stack within a fixed memory.
set_option Elab.async false

namespace Sys2Proof.Proofs

open Sys2Proof.Machine
open Sys2Proof.Claims

/-! ### Parameters -/

theorem clamp_within {lo hi : Nat} (ordered : lo ≤ hi) (v : Nat) : lo ≤ clamp (lo, hi) v ∧ clamp (lo, hi) v ≤ hi := by
  unfold clamp
  dsimp only
  omega

theorem geoRange_ordered (g : GeoId) : (geoRange g).1 ≤ (geoRange g).2 := by cases g <;> simp [geoRange]

/-- The table's row of a geometry parameter gives its range. -/
theorem geoRange_of_row {id lo hi dflt : Nat} {g : GeoId} (row : (id, ParamId.geo g, lo, hi, dflt) ∈ parameterTable) :
    (lo, hi) = geoRange g := by
  have rows : parameterTable.all (fun r => match r.2.1 with
      | .geo p => decide ((r.2.2.1, r.2.2.2.1) = geoRange p)
      | _ => true) = true := by decide
  simpa using List.all_eq_true.mp rows _ row

/-- Every geometry parameter has a row. -/
theorem row_of_geo (g : GeoId) : ∃ id dflt, (id, ParamId.geo g, (geoRange g).1, (geoRange g).2, dflt) ∈ parameterTable := by
  cases g with
  | pG k => match k with
    | 0 => exact ⟨7, 3400, by decide⟩
    | 1 => exact ⟨8, 3700, by decide⟩
    | 2 => exact ⟨9, 4000, by decide⟩
    | 3 => exact ⟨10, 4300, by decide⟩
    | 4 => exact ⟨11, 4600, by decide⟩
    | 5 => exact ⟨12, 4900, by decide⟩
  | pR => exact ⟨0, 400, by decide⟩
  | pF => exact ⟨1, 1800, by decide⟩
  | flipSetup => exact ⟨2, 60, by decide⟩
  | flipHold => exact ⟨3, 40, by decide⟩
  | pT => exact ⟨4, 2400, by decide⟩
  | pC => exact ⟨5, 2800, by decide⟩
  | pP => exact ⟨6, 2880, by decide⟩
  | gateSetup => exact ⟨13, 50, by decide⟩
  | gateHold => exact ⟨14, 30, by decide⟩
  | pE => exact ⟨15, 5400, by decide⟩
  | tol => exact ⟨16, 20, by decide⟩
  | minGap => exact ⟨17, 100, by decide⟩
  | feedLead => exact ⟨18, 40, by decide⟩
  | arrivalLimit => exact ⟨19, 400, by decide⟩
  | maxPiece => exact ⟨20, 600, by decide⟩
  | minPiece => exact ⟨21, 200, by decide⟩

/-- Every geometry parameter lies in its range. -/
def GeometryRanged (g : Geometry) : Prop := ∀ p, (geoRange p).1 ≤ geoValue g p ∧ geoValue g p ≤ (geoRange p).2

theorem places_iff_ranged (g : Geometry) :
    (∀ id p lo hi dflt, (id, ParamId.geo p, lo, hi, dflt) ∈ parameterTable → lo ≤ geoValue g p ∧ geoValue g p ≤ hi) ↔
      GeometryRanged g := by
  constructor
  · intro places p
    obtain ⟨id, dflt, row⟩ := row_of_geo p
    exact places _ _ _ _ _ row
  · intro ranged id p lo hi dflt row
    obtain ⟨rfl, rfl⟩ := Prod.mk.inj (geoRange_of_row row)
    exact ranged p

theorem geoValue_set_self (g : Geometry) (p : GeoId) (v : Nat) : geoValue (g.set p v) p = v := by
  cases p <;> simp [Geometry.set, geoValue]

theorem geoValue_set_ne (g : Geometry) {p q : GeoId} (v : Nat) (other : q ≠ p) :
    geoValue (g.set p v) q = geoValue g q := by
  cases p
  case pG k =>
    cases q
    case pG l =>
      have apart : k.val ≠ l.val := fun same => other (by rw [Fin.ext same])
      simp [Geometry.set, geoValue, apart]
    all_goals rfl
  all_goals cases q <;> simp_all [Geometry.set, geoValue]

theorem geometryRanged_set {g : Geometry} (ranged : GeometryRanged g) (p : GeoId) (v : Nat) :
    GeometryRanged (g.set p (clamp (geoRange p) v)) := by
  intro q
  by_cases named : q = p
  · subst named
    rw [geoValue_set_self]
    exact clamp_within (geoRange_ordered q) v
  · rw [geoValue_set_ne _ _ named]
    exact ranged q

theorem consistent_iff (g : Geometry) : g.consistent = true ↔ Consistent g := by
  simp only [Geometry.consistent, Consistent, Bool.and_eq_true, decide_eq_true_eq]
  omega

theorem detectorSound_set {d : Detector} (sound : DetectorSound d) (p : DetId) (v : Nat) :
    DetectorSound (d.set p (clamp (detRange d p) v)) := by
  unfold DetectorSound at *
  cases p <;> simp only [Detector.set, detRange, clamp] <;> omega

theorem paramsSound_default : ParamsSound defaultParams where
  geometry := (consistent_iff _).mp (by decide)
  places := by
    rw [places_iff_ranged]
    intro p
    cases p with
    | pG k => match k with | 0 | 1 | 2 | 3 | 4 | 5 => decide
    | _ => decide
  tag := by unfold DetectorSound; decide
  meter := by unfold DetectorSound; decide
  cancel := by decide
  timing := by decide

theorem writeParam_params_sound {s : State} {p : ParamId} {v : Nat} (sound : ParamsSound s.params)
    (consistent : s.consistentWith p (s.clampParam p v) = true) :
    ParamsSound (s.writeParam p (s.clampParam p v)).params := by
  obtain ⟨geometry, places, tag, meter, cancel, timing⟩ := sound
  cases p with
  | geo g =>
    refine ⟨(consistent_iff _).mp consistent, ?_, tag, meter, cancel, timing⟩
    rw [places_iff_ranged] at places ⊢
    exact geometryRanged_set places g v
  | det k d =>
    cases k with
    | tag => exact ⟨geometry, places, detectorSound_set tag d v, meter, cancel, timing⟩
    | meter => exact ⟨geometry, places, tag, detectorSound_set meter d v, cancel, timing⟩
  | mPre => exact ⟨geometry, places, tag, meter, ⟨(clamp_within (by decide) v).2, cancel.2⟩, timing⟩
  | recovery => exact ⟨geometry, places, tag, meter, ⟨cancel.1, (clamp_within (by decide) v).2⟩, timing⟩
  | stallLimit =>
    have within := clamp_within (lo := 100) (hi := 10000) (by decide) v
    exact ⟨geometry, places, tag, meter, cancel, within.1, within.2, timing.2.2⟩
  | interval =>
    have within := clamp_within (lo := 1) (hi := 255) (by decide) v
    exact ⟨geometry, places, tag, meter, cancel, timing.1, timing.2.1, within.1, within.2⟩
  | capacity b =>
    rw [show (s.writeParam (.capacity b) (s.clampParam (.capacity b) v)).params = s.params from
      setCapacity_only s b _ .params (by simp)]
    exact ⟨geometry, places, tag, meter, cancel, timing⟩

theorem act_keeps_params (fs : List Part) (s t : State) (act : Act fs s t) (sound : ParamsSound s.params) :
    ParamsSound t.params := by
  have only := act.only
  cases act
  case powerOn => exact paramsSound_default
  case setParam p v consistent => exact writeParam_params_sound sound consistent
  case lineReset => exact sound
  all_goals
    rw [show _ = s.params from only .params (by simp)]
    exact sound

/-! ### Counters -/

/-- An act raises counters, or is a power-on or CLEAR TALLIES, after which all are 0 (R136, R142). -/
theorem Act.gains_or_clears {fs : List Part} {s t : State} (act : Act fs s t) :
    (∀ v, ∃ n, t.tally v = gained s v n) ∨ t.live = Vector.replicate 32 0 := by
  have only := act.only
  cases act
  case powerOn | clearTallies => exact .inr rfl
  all_goals refine .inl ?_
  case lineReset cause =>
    intro v
    change ∃ n, ((s.addTally .purged s.track.length).addTally .lineResets 1).tally v = _
    by_cases own : v = .lineResets
    · subst own
      refine ⟨1, ?_⟩
      rw [State.addTally_tally, addTally_tally_ne _ _ (by decide), gained_pos _ _ one_ne_zero]
      rfl
    · rw [addTally_tally_ne _ _ own]
      have ledger := bumpBy_ledger s .purged s.track.length
      obtain ⟨n, rises⟩ := ledger.gains v
      exact ⟨n, (bumpBy_tally s .purged s.track.length v).symm.trans rises⟩
  case jam cause cell => exact (jam_ledger s cause cell).gains
  case abandonRead r ch _ => exact (abandonRead_ledger s r ch).choose_spec.gains
  case stepHead h => exact (stepHead_ledger s h).gains
  case expireGrant => exact (expireGrant_ledger s).gains
  case strayEdge => exact (bump_ledger s .strayEdges).gains
  case createRecord => exact (createRecord_ledger s).gains
  case arrival r b _ _ => exact (arrival_ledger s r b).choose_spec.gains
  case pass r _ noBin _ _ => exact (matched_pass_ledger s r noBin).gains
  case completeRead r ch _ => exact (completeRead_ledger s r ch).choose_spec.gains
  case expireStall => exact (expireStall_ledger s).choose_spec.gains
  case takeOffline h => exact (takeOffline_ledger s h).gains
  case purge => exact (purgeTrack_ledger s).gains
  all_goals exact fun v => ⟨0, congrArg (fun l : Vector Nat 32 => l[tallyIx v]) (only .live (by simp))⟩

theorem act_keeps_live (fs : List Part) (s t : State) (act : Act fs s t) (within : ∀ i : Fin 32, s.live[i] ≤ 4294967295) :
    ∀ i : Fin 32, t.live[i] ≤ 4294967295 := by
  intro i
  rcases act.gains_or_clears with gains | clears
  · obtain ⟨n, rises⟩ := gains (tallyAt i)
    have start := within i
    rw [live_eq_tally] at start ⊢
    rw [rises]
    unfold gained raised
    split <;> omega
  · simp [clears]

/-! ### Baselines and training counts -/

theorem trainedBaseline_le {b : Nat} (within : b ≤ 4080) (z : Byte) : trainedBaseline b z ≤ 4080 := by
  have top := z.isLt
  unfold trainedBaseline
  omega

/-- Baselines and training counts within their ranges (R46, R56). -/
def TrainingSound (s : State) : Prop :=
  (∀ i : Fin 8, s.baselines[i] ≤ 4080) ∧ ∀ i : Fin 8, s.training[i] ≤ 64 ∧ s.training[i] = s.training[(0 : Fin 8)]

theorem TrainingSound.of_only {fs : List Part} {s t : State} (sound : TrainingSound s) (only : Only fs s t)
    (baselines : .baselines ∉ fs := by simp) (training : .training ∉ fs := by simp) : TrainingSound t := by
  unfold TrainingSound
  rw [show t.baselines = s.baselines from only .baselines baselines,
    show t.training = s.training from only .training training]
  exact sound

/-- All training counts 0, as they are after a wake, a start from STANDBY and a line reset. -/
theorem TrainingSound.restarted {s t : State} (sound : TrainingSound s) (baselines : t.baselines = s.baselines)
    (training : t.training = Vector.replicate 8 0) : TrainingSound t := by
  unfold TrainingSound
  rw [baselines, training]
  exact ⟨sound.1, fun i => by simp⟩

theorem train_trainingSound {s : State} (z : Samples) (sound : TrainingSound s) : TrainingSound (s.train z) := by
  obtain ⟨baselines, training⟩ := sound
  have trained : TrainingSound { s with
      baselines := Vector.ofFn fun i => trainedBaseline s.baselines[i] z[i]
      training := tabulate (fun n => min (n + 1) 64) s.training } := by
    refine ⟨fun i => ?_, fun i => ?_⟩
    · simpa using trainedBaseline_le (baselines i) z[i]
    · have same := (training i).2
      simp only [Fin.getElem_fin] at same
      simp [tabulate, same]
  unfold State.train
  dsimp only
  split
  · exact trained.of_only (raise_only _ .feed _)
  · exact trained

theorem useSamples_trainingSound {s : State} (l : LineState) (z : Samples) (sound : TrainingSound s) :
    TrainingSound (s.useSamples l z) := by
  unfold State.useSamples
  split
  · split
    · exact train_trainingSound z sound
    · exact sound
  · split
    · split
      · exact sound.of_only (readSample_only s _ _ z)
      · exact sound
      · exact sound
    · exact sound

theorem act_keeps_training (fs : List Part) (s t : State) (act : Act fs s t) (sound : TrainingSound s) :
    TrainingSound t := by
  have only := act.only
  cases act
  case powerOn => exact ⟨fun i => by simp [State.powerOn, State.reset], fun i => by simp [State.powerOn, State.reset]⟩
  case lineReset => exact sound.restarted rfl rfl
  case wake =>
    unfold State.wake
    split
    · exact sound.restarted rfl rfl
    · exact sound
  case useSamples l z => exact useSamples_trainingSound l z sound
  case startFromStandby => exact sound.restarted rfl rfl
  all_goals exact sound.of_only only

theorem act_keeps_counts (fs : List Part) (s t : State) (act : Act fs s t) (sound : CountsSound s) : CountsSound t := by
  obtain ⟨baselines, training⟩ := act_keeps_training fs s t act ⟨sound.baselines, sound.training⟩
  refine ⟨baselines, training, act_keeps_live fs s t act sound.live, ?_⟩
  have only := act.only
  cases act
  case powerOn => exact fun i => by simp [State.powerOn, State.reset]
  case snapshot => exact sound.live
  case lineReset => exact sound.snapshot
  all_goals
    rw [show _ = s.snapshot from only .snapshot (by simp)]
    exact sound.snapshot

/-- Settles O19: values are clamped as they are stored, and a counter stops at its limit. -/
theorem stepsKeepTheValuesInRange : Obligations.StepsKeepTheValuesInRange :=
  step_keeps (P := fun s => ParamsSound s.params ∧ CountsSound s)
    (fun fs s t act sound => ⟨act_keeps_params fs s t act sound.1, act_keeps_counts fs s t act sound.2⟩)
    fun _ _ sound => ⟨sound.1, sound.2.baselines, sound.2.training, sound.2.live, sound.2.snapshot⟩

end Sys2Proof.Proofs
end

section
/-! PROOFS. What every step keeps of the piece track (R18, R19). -/

-- The proofs are elaborated one after another: the check gives each thread a large stack within a fixed memory.
set_option Elab.async false

namespace Sys2Proof.Proofs

open Sys2Proof.Machine
open Sys2Proof.Claims

/-! ### Parts read off a footprint -/

section
variable {fs : List Part} {s t : State} (only : Only fs s t)
include only

theorem Only.line_eq (absent : .line ∉ fs := by simp) : t.line = s.line := only .line absent

theorem Only.release_eq (absent : .release ∉ fs := by simp) : t.release = s.release := only .release absent

theorem Only.read_eq (absent : .read ∉ fs := by simp) : t.read = s.read := only .read absent

theorem Only.gates_eq (absent : .gates ∉ fs := by simp) : t.gates = s.gates := only .gates absent

theorem Only.head_eq (h : HeadId) (absent : .head h ∉ fs := by simp) : t.head h = s.head h := only (.head h) absent

theorem Only.live_eq (absent : .live ∉ fs := by simp) : t.live = s.live := only .live absent

theorem Only.tags_eq (absent : .tags ∉ fs := by simp) : tagsOf t.track = tagsOf s.track := only .tags absent

end

/-! ### The track through its tags -/

theorem track_eq_nil_iff (s : State) : s.track = [] ↔ tagsOf s.track = [] := List.map_eq_nil_iff.symm

theorem track_length (s : State) : s.track.length = (tagsOf s.track).length := (List.length_map _).symm

theorem Only.track_nil {fs : List Part} {s t : State} (only : Only fs s t) (tags : .tags ∉ fs := by simp) :
    t.track = [] ↔ s.track = [] := by
  rw [track_eq_nil_iff, track_eq_nil_iff, show tagsOf t.track = tagsOf s.track from only .tags tags]

theorem Only.track_length {fs : List Part} {s t : State} (only : Only fs s t) (tags : .tags ∉ fs := by simp) :
    t.track.length = s.track.length := by
  rw [Proofs.track_length, Proofs.track_length, show tagsOf t.track = tagsOf s.track from only .tags tags]

theorem mem_tagsOf {l : List Record} {r : Record} (mem : r ∈ l) : r.tag ∈ tagsOf l := List.mem_map_of_mem mem

/-- A track of no new tag, with no new grant, stays sound. -/
theorem trackSound_of_sub {s t : State} (sound : TrackSound s) (tags : (tagsOf t.track).Sublist (tagsOf s.track))
    (nextTag : t.nextTag = s.nextTag) (granted : ∀ g, t.release = .granted g → s.release = .granted g) : TrackSound t := by
  have shorter : t.track.length ≤ s.track.length := by
    rw [track_length, track_length]
    exact tags.length_le
  refine ⟨shorter.trans sound.room, tags.nodup sound.distinct, fun r mem => ?_, fun g grant => ?_⟩
  · obtain ⟨q, known, same⟩ := List.mem_map.mp (tags.subset (mem_tagsOf mem))
    rw [nextTag, ← same]
    exact sound.fresh q known
  · exact shorter.trans_lt (sound.granted g (granted g grant))

theorem trackSound_of_only {fs : List Part} {s t : State} (sound : TrackSound s) (only : Only fs s t)
    (tags : .tags ∉ fs := by simp) (nextTag : .nextTag ∉ fs := by simp) (release : .release ∉ fs := by simp) :
    TrackSound t :=
  trackSound_of_sub sound (by rw [show tagsOf t.track = tagsOf s.track from only .tags tags]) (only .nextTag nextTag)
    fun g grant => (show t.release = s.release from only .release release) ▸ grant

theorem trackSound_of_empty {s : State} (track : s.track = []) (release : s.release = .none) : TrackSound s where
  room := by simp [track]
  distinct := by simp [track]
  fresh := by simp [track]
  granted g grant := by simp [release] at grant

/-! ### The release state after an operation -/

theorem releaseAfterGrant_ungranted (s : State) (g : Pos) : s.releaseAfterGrant ≠ .granted g := by
  unfold State.releaseAfterGrant
  split <;> simp

theorem expireGrant_release (s : State) : s.expireGrant.release = s.release ∨ s.expireGrant.release = s.releaseAfterGrant := by
  unfold State.expireGrant
  split
  · split
    · exact .inr rfl
    · exact .inl rfl
  · exact .inl rfl

@[simp] theorem jamInduction_release (s : State) : s.jamInduction.release = .none := by
  unfold State.jamInduction
  dsimp only
  split
  · exact completeFlight_only _ .feed _ .release (by simp)
  · exact completeFlight_only _ .feed _ .release (by simp)
  · rfl

@[simp] theorem jam_release (s : State) (c : JamCause) (x : Cell) : (s.jam c x).release = .none := jamInduction_release _

theorem abortEffect_release (k : Flight) (s : State) :
    (abortEffect k s).release = s.release ∨ k = .release ∧ (abortEffect k s).release = .none := by
  cases k with
  | release =>
    by_cases waiting : s.release = .waiting
    · exact .inr ⟨rfl, by rw [abortEffect_release_waiting waiting]⟩
    · exact .inl (by rw [abortEffect_release_not_waiting waiting])
  | swapTray b => exact .inl (endSwap_only s b .release (by simp))
  | _ => exact .inl rfl

/-- What the judgement of a grant does (R39). -/
theorem judgeGrant_cases (s : State) :
    (s.release = .waiting ∧ s.permit = true ∧
        s.judgeGrant = State.completeFlight { s with release := .granted s.pos } .feed .done) ∨
      s.judgeGrant = s := by
  unfold State.judgeGrant
  split
  next waiting =>
    split
    next permit => exact .inl ⟨waiting, permit, rfl⟩
    next => exact .inr rfl
  next => exact .inr rfl

theorem permit_room {s : State} (permit : s.permit = true) : s.track.length < 32 := by
  simp only [State.permit, Bool.and_eq_true, decide_eq_true_eq] at permit
  exact permit.1.1.2

theorem permit_running {s : State} (permit : s.permit = true) : s.line = .running := by
  simp only [State.permit, Bool.and_eq_true, decide_eq_true_eq, beq_iff_eq] at permit
  exact permit.1.1.1.1.1

/-! ### Arrivals and creations -/

theorem afterRemoval_track (s : State) : s.afterRemoval.track = s.track :=
  afterRemoval_only s .track (by simp)

theorem removeRec_track (s : State) (t : Tag) : (s.removeRec t).track = s.track.filter fun r => r.tag != t :=
  afterRemoval_track _

/-- What an arrival does before its record leaves the track. -/
theorem arrival_parts (s : State) (r : Record) (b : Bin) : ∃ u, s.arrival r b = u.removeRec r.tag ∧
    Only (.read :: .track :: .lastRes :: .gates :: .bins :: .live :: .flags .super :: .flags .feed :: .head .high ::
      .head .low :: [.flags .print]) s u :=
  ⟨_, rfl, (((leaveRead_only s r.tag).trans (countArrival_only _ b r.tag)).trans (departMark_only _ r)).within⟩

theorem tagsOf_filter (l : List Record) (t : Tag) :
    tagsOf (l.filter fun r => r.tag != t) = (tagsOf l).filter fun u => u != t := by
  unfold tagsOf
  rw [List.filter_map]
  rfl

theorem arrival_tags (s : State) (r : Record) (b : Bin) :
    tagsOf (s.arrival r b).track = (tagsOf s.track).filter fun u => u != r.tag := by
  obtain ⟨u, eq, only⟩ := arrival_parts s r b
  rw [eq, removeRec_track, tagsOf_filter, show tagsOf u.track = tagsOf s.track from only .tags (by simp)]

theorem createRecord_track (s : State) :
    s.createRecord.track = s.track ++ [{ tag := s.nextTag, stage := .inducting, next := some .r, anchor := s.pos }] :=
  bump_only _ .inducted .track (by simp)

theorem createRecord_nextTag (s : State) :
    s.createRecord.nextTag = nextFreeTag 33 (s.nextTag + 1) s.createRecord.track := by
  rw [createRecord_track]
  exact bump_only _ .inducted .nextTag (by simp)

theorem createRecord_release (s : State) : s.createRecord.release = s.releaseAfterGrant :=
  bump_only _ .inducted .release (by simp)

theorem createRecord_trackSound {s : State} {g : Pos} (sound : TrackSound s) (granted : s.release = .granted g) :
    TrackSound s.createRecord := by
  have room : s.createRecord.track.length ≤ 32 := by
    rw [createRecord_track, List.length_append]
    exact sound.granted g granted
  refine ⟨room, ?_, ?_, fun g grant => ?_⟩
  · rw [createRecord_track, List.map_append, List.nodup_append]
    refine ⟨sound.distinct, by simp, ?_⟩
    simpa using sound.fresh
  · rw [createRecord_nextTag]
    exact (nextFreeTag_after_creation room).1
  · rw [createRecord_release] at grant
    exact absurd grant (releaseAfterGrant_ungranted s g)

theorem purgeTrack_track (s : State) : s.purgeTrack.track = [] := afterRemoval_track _

/-! ### Every step -/

theorem act_keeps_track (fs : List Part) (s t : State) (act : Act fs s t) (sound : TrackSound s) : TrackSound t := by
  have only := act.only
  cases act
  case powerOn | lineReset => exact trackSound_of_empty rfl rfl
  case jam cause cell =>
    refine trackSound_of_sub sound ?_ (only .nextTag (by simp)) (by simp)
    rw [show tagsOf (s.jam cause cell).track = tagsOf s.track from only .tags (by simp)]
  case expireGrant =>
    refine trackSound_of_sub sound ?_ (only .nextTag (by simp)) fun g grant => ?_
    · rw [show tagsOf s.expireGrant.track = tagsOf s.track from only .tags (by simp)]
    · rcases expireGrant_release s with same | lapsed
      · exact same ▸ grant
      · exact absurd (lapsed ▸ grant) (releaseAfterGrant_ungranted s g)
  case createRecord g granted => exact createRecord_trackSound sound granted
  case arrival r b _ _ =>
    refine trackSound_of_sub sound ?_ (only .nextTag (by simp)) fun g grant => ?_
    · rw [arrival_tags]
      exact List.filter_sublist
    · exact (show (s.arrival r b).release = s.release from only .release (by simp)) ▸ grant
  case judgeGrant =>
    rcases judgeGrant_cases s with ⟨-, permit, -⟩ | same
    · have tags : tagsOf s.judgeGrant.track = tagsOf s.track := only .tags (by simp)
      have kept := trackSound_of_sub sound (t := { s.judgeGrant with release := .none }) (by rw [tags]) (only .nextTag (by simp))
        (by simp)
      exact ⟨kept.room, kept.distinct, kept.fresh, fun _ _ => by rw [only.track_length]; exact permit_room permit⟩
    · rw [same]
      exact sound
  case abort x call k _ =>
    refine trackSound_of_sub sound ?_ (only .nextTag (by simp)) fun g grant => ?_
    · rw [show tagsOf ((abortEffect k s).complete x call .aborted).track = tagsOf s.track from only .tags (by simp)]
    · rw [show ((abortEffect k s).complete x call .aborted).release = (abortEffect k s).release from
        complete_only _ x call _ .release (by simp)] at grant
      rcases abortEffect_release k s with same | ⟨-, none⟩
      · exact same ▸ grant
      · rw [none] at grant
        cases grant
  case release call _ =>
    refine trackSound_of_sub sound ?_ (only .nextTag (by simp)) fun g grant => ?_
    · rw [show tagsOf (State.takeOff { s with release := s.release.ask } .feed call .release).track = tagsOf s.track from
        only .tags (by simp)]
    · change s.release.ask = .granted g at grant
      cases release : s.release <;> simp_all [ReleaseState.ask]
  case purge =>
    refine trackSound_of_sub sound ?_ (only .nextTag (by simp)) fun g grant => ?_
    · rw [purgeTrack_track]
      exact List.nil_sublist _
    · exact (show s.purgeTrack.release = s.release from only .release (by simp)) ▸ grant
  all_goals exact trackSound_of_only sound only

/-- Settles O16: records leave freely, and one enters with a fresh tag where a grant keeps room for it. -/
theorem stepsKeepTheTrackSound : Obligations.StepsKeepTheTrackSound :=
  step_keeps act_keeps_track fun _ _ sound => ⟨sound.room, sound.distinct, sound.fresh, sound.granted⟩

end Sys2Proof.Proofs
end

section
/-! PROOFS. What every step keeps of the line state (R14, R29, R36, R49, R107, R135, R149). Three parts: what the Feed port
and the release state have to do with the line, what a jam leaves, and the stall timer. -/

-- The proofs are elaborated one after another: the check gives each thread a large stack within a fixed memory.
set_option Elab.async false

namespace Sys2Proof.Proofs

open Sys2Proof.Machine
open Sys2Proof.Claims

/-! ### Commands in flight -/

theorem Only.flight_eq {fs : List Part} {s t : State} (only : Only fs s t) (x : PortId)
    (absent : .flight x ∉ fs := by simp) : t.flight x = s.flight x := by
  rw [State.flight, State.flight, show (t.port x).inFlight = (s.port x).inFlight from only (.flight x) absent]

theorem complete_flight (s : State) (x : PortId) (call : Bool) (c : Code) : (s.complete x call c).flight x = none := by
  simp [State.flight, State.complete, Port.complete]

theorem completeFlight_flight (s : State) (x : PortId) (c : Code) : (s.completeFlight x c).flight x = none := by
  unfold State.completeFlight
  split
  next none => simp [State.flight, none]
  next f _ => exact complete_flight s x f.call c

theorem takeOff_flight (s : State) (x : PortId) (call : Bool) (k : Flight) :
    (s.takeOff x call k).flight x = some k := by
  simp [State.flight, State.takeOff]

theorem setFlight_flight {s : State} {x : PortId} {k : Flight} (l : Flight) (flight : s.flight x = some k) :
    (s.setFlight x l).flight x = some l := by
  obtain ⟨f, here, -⟩ := Option.map_eq_some_iff.mp flight
  simp [State.flight, State.setFlight, here]

theorem flightsListed_of_only {fs : List Part} {s t : State} (listed : FlightsListed s) (only : Only fs s t)
    (absent : ∀ x, .flight x ∉ fs := by simp) : FlightsListed t := fun x k flight =>
  listed x k (only.flight_eq x (absent x) ▸ flight)

/-- A command that ends at a port leaves the commands at the others. -/
theorem flightsListed_of_end {fs : List Part} {s t : State} {x : PortId} (listed : FlightsListed s) (only : Only fs s t)
    (ended : t.flight x = none) (absent : ∀ y, y ≠ x → .flight y ∉ fs := by simp) : FlightsListed t := by
  intro y k flight
  by_cases here : y = x
  · rw [here, ended] at flight
    cases flight
  · exact listed y k (only.flight_eq y (absent y here) ▸ flight)

/-- A command that comes to be in flight at its own port leaves the commands at the others. -/
theorem flightsListed_of_taken {fs : List Part} {s t : State} {x : PortId} {k : Flight} (listed : FlightsListed s)
    (only : Only fs s t) (taken : t.flight x = some k) (here : x = flightPort k)
    (absent : ∀ y, y ≠ x → .flight y ∉ fs := by simp) : FlightsListed t := by
  intro y l flight
  by_cases same : y = x
  · rw [same, taken] at flight
    cases flight
    exact same.trans here
  · exact listed y l (only.flight_eq y (absent y same) ▸ flight)

theorem sameFlight_port {k l : Flight} (same : SameFlight k l) : flightPort l = flightPort k := by
  rcases same with ⟨a, b, rfl, rfl⟩ | ⟨⟨n, i, p, c, rfl⟩ | ⟨bs, rfl⟩, ⟨n', i', p', c', rfl⟩ | ⟨bs', rfl⟩⟩ <;> rfl

theorem sameFlight_isBlock {k l : Flight} (same : SameFlight k l) : IsBlock l := by
  rcases same with ⟨a, b, rfl, rfl⟩ | ⟨-, block⟩
  · exact .inl ⟨b, rfl⟩
  · exact .inr block

theorem isBlockRead_port {k : Flight} (block : IsBlockRead k) : flightPort k = .super := by
  rcases block with ⟨n, i, p, c, rfl⟩ | ⟨bs, rfl⟩ <;> rfl

theorem isBlock_port {k : Flight} (block : IsBlock k) : flightPort k ≠ .feed := by
  rcases block with ⟨a, rfl⟩ | read
  · exact Ne.symm (by simp [flightPort])
  · rw [isBlockRead_port read]
    decide

/-- What a swap's end does (R130). -/
theorem finishSwap_cases (s : State) :
    (∃ b, s.flight .super = some (.swapTray b) ∧ (s.bin b).state = .swapping ∧ (s.bin b).bound = 0 ∧
        s.finishSwap = (s.setBin b { s.bin b with state := .withheld }).completeFlight .super .done) ∨
      s.finishSwap = s := by
  unfold State.finishSwap
  split
  next b flight =>
    split
    next due => exact .inl ⟨b, flight, due.1, due.2, rfl⟩
    next => exact .inr rfl
  next => exact .inr rfl

/-- What the end of a reference wait does (R117). -/
theorem finishWait_cases (s : State) :
    (∃ l, s.flight .print = some (.loadMark l) ∧ l.phase = .wait ∧ s.bankReferenced l.slot l.bank = false ∧
        s.finishWait = s.setFlight .print (.loadMark l.begin_)) ∨ s.finishWait = s := by
  unfold State.finishWait
  split
  next l flight =>
    split
    next wait =>
      split
      · exact .inr rfl
      next free => exact .inl ⟨l, flight, wait, by simpa using free, rfl⟩
    next => exact .inr rfl
  next => exact .inr rfl

theorem drainDue_iff (s : State) : s.drainDue = true ↔ s.line = .draining ∧ s.track = [] ∧ s.release = .none := by
  simp [State.drainDue, and_assoc]

/-- What a DRAIN's end does (R49). -/
theorem finishDrain_cases (s : State) :
    ((s.line = .draining ∧ s.track = [] ∧ s.release = .none) ∧
        s.finishDrain = State.endDrain { s with line := .idle, stallTimer := stoppedTimer }) ∨ s.finishDrain = s := by
  unfold State.finishDrain
  split
  next due => exact .inl ⟨(drainDue_iff s).mp due, rfl⟩
  next => exact .inr rfl

theorem endDrain_only (s : State) : Only (endParts .feed) s s.endDrain := by
  unfold State.endDrain
  split
  · exact completeFlight_only s .feed _
  · exact Only.refl _ s

theorem endDrain_flight (s : State) :
    s.endDrain.flight .feed = if s.flight .feed = some .drain then none else s.flight .feed := by
  unfold State.endDrain
  split
  · exact completeFlight_flight s .feed _
  · rfl

theorem flightsListed_jamInduction {s : State} (listed : FlightsListed s) : FlightsListed s.jamInduction := by
  unfold State.jamInduction
  dsimp only
  split
  · exact flightsListed_of_end listed (x := .feed) ((setRelease_only s .none).trans (completeFlight_only _ .feed _))
      (completeFlight_flight _ _ _)
  · exact flightsListed_of_end listed (x := .feed) ((setRelease_only s .none).trans (completeFlight_only _ .feed _))
      (completeFlight_flight _ _ _)
  · exact flightsListed_of_only listed (setRelease_only s .none)

/-- A jam ends what the Feed port waits for (R45, R150). -/
theorem jamInduction_flight (s : State) :
    s.jamInduction.flight .feed ≠ some .release ∧ s.jamInduction.flight .feed ≠ some .drain := by
  unfold State.jamInduction
  dsimp only
  split
  · rw [completeFlight_flight]
    simp
  · rw [completeFlight_flight]
    simp
  next notRelease notDrain => exact ⟨notRelease, notDrain⟩

/-! ### Commands in flight are listed for their ports (11.8) -/

theorem finishDrain_listed {s : State} (listed : FlightsListed s) : FlightsListed s.finishDrain := by
  rcases finishDrain_cases s with ⟨-, ended⟩ | same
  · have rested := (setLine_only s .idle).trans (setTimer_only { s with line := .idle } stoppedTimer)
    rw [ended]
    unfold State.endDrain
    split
    · exact flightsListed_of_end (x := .feed) listed (rested.trans (completeFlight_only _ .feed .done))
        (completeFlight_flight _ _ _)
    · exact flightsListed_of_only listed rested
  · rw [same]
    exact listed

theorem jam_listed {s : State} (c : JamCause) (x : Cell) (listed : FlightsListed s) : FlightsListed (s.jam c x) :=
  flightsListed_jamInduction (flightsListed_of_only listed (((((enterJam_only s c x).trans (jamRead_only _)).trans
    (jamHead_only _ .high)).trans (jamHead_only _ .low)).trans (holdTrack_only _)))

theorem act_keeps_listed (fs : List Part) (s t : State) (act : Act fs s t) (listed : FlightsListed s) : FlightsListed t := by
  have only := act.only
  cases act
  case powerOn | lineReset => intro x k flight; cases x <;> cases flight
  case jam cause cell => exact jam_listed cause cell listed
  case judgeGrant =>
    rcases judgeGrant_cases s with ⟨-, -, granted⟩ | same
    · exact flightsListed_of_end (x := .feed) listed only (by rw [granted, completeFlight_flight])
    · rw [same]
      exact listed
  case finishDrain => exact finishDrain_listed listed
  case finishSwap =>
    rcases finishSwap_cases s with ⟨b, -, -, -, ended⟩ | same
    · exact flightsListed_of_end (x := .super) listed only (by rw [ended, completeFlight_flight])
    · rw [same]
      exact listed
  case finishWait =>
    rcases finishWait_cases s with ⟨l, flight, -, -, next⟩ | same
    · exact flightsListed_of_taken (x := .print) listed only (by rw [next, setFlight_flight _ flight]) rfl
    · rw [same]
      exact listed
  case abort x call k _ => exact flightsListed_of_end (x := x) listed only (complete_flight _ x call .aborted)
  case release | drain => exact flightsListed_of_taken (x := .feed) listed only (takeOff_flight _ _ _ _) rfl
  case loadMark => exact flightsListed_of_taken (x := .print) listed only (takeOff_flight _ _ _ _) rfl
  case blockRead call k block _ =>
    exact flightsListed_of_taken (x := .super) listed only (takeOff_flight _ _ _ _) (isBlockRead_port block).symm
  case swapTray => exact flightsListed_of_taken (x := .super) listed only (takeOff_flight _ _ _ _) rfl
  case nextStage x k l same flight =>
    exact flightsListed_of_taken listed only (setFlight_flight l flight)
      ((listed x k flight).trans (sameFlight_port same).symm)
  case endBlock x k code _ _ => exact flightsListed_of_end listed only (completeFlight_flight s x code)
  all_goals exact flightsListed_of_only listed only

/-! ### The Feed port, the release state and the line -/

/-- The release state is NONE while the line does not move, the track empty while it rests; WAITING and RELEASE in flight
go together, a DRAIN in flight with DRAINING. -/
structure FeedSound (s : State) : Prop where
  still   : ¬ Moving s → s.release = .none
  empty   : Resting s → s.track = []
  waiting : s.release = .waiting → s.flight .feed = some .release
  asked   : s.flight .feed = some .release → s.line = .running ∧ s.release ≠ .none
  drain   : s.flight .feed = some .drain → s.line = .draining

theorem not_moving_iff (s : State) : ¬ Moving s ↔ Resting s ∨ s.line = .jammed := by
  unfold Moving Resting
  cases s.line <;> simp

theorem moving_of_line {s : State} {l : LineState} (line : s.line = l) (moves : l = .running ∨ l = .draining) :
    Moving s := by
  unfold Moving
  rwa [line]

theorem moving_of_granted {s : State} {g : Pos} (sound : FeedSound s) (granted : s.release = .granted g) : Moving s := by
  by_contra still
  rw [sound.still still] at granted
  cases granted

/-- A line that rests with nothing asked. -/
theorem feedSound_at_rest {s : State} (empty : Resting s → s.track = [])
    (release : s.release = .none) (noRelease : s.flight .feed ≠ some .release) (noDrain : s.flight .feed ≠ some .drain) :
    FeedSound s where
  still := fun _ => release
  empty := empty
  waiting waits := by rw [release] at waits; cases waits
  asked flight := absurd flight noRelease
  drain flight := absurd flight noDrain

/-- A still line has neither RELEASE nor DRAIN in flight. -/
theorem FeedSound.unasked {s : State} (sound : FeedSound s) (still : ¬ Moving s) :
    s.flight .feed ≠ some .release ∧ s.flight .feed ≠ some .drain := by
  constructor
  · intro flight
    exact still (.inl (sound.asked flight).1)
  · intro flight
    exact still (.inr (sound.drain flight))

/-- A line that starts from rest. -/
theorem feedSound_start {fs : List Part} {s t : State} (sound : FeedSound s) (resting : Resting s) (only : Only fs s t)
    (line : t.line = .running) (release : .release ∉ fs := by simp) (flights : ∀ x, .flight x ∉ fs := by simp) :
    FeedSound t := by
  have still : ¬ Moving s := (not_moving_iff s).mpr (.inl resting)
  have none : t.release = .none := (only.release_eq release).trans (sound.still still)
  have feed := only.flight_eq .feed (flights .feed)
  obtain ⟨noRelease, noDrain⟩ := sound.unasked still
  refine ⟨fun _ => none, fun rests => ?_, fun waits => ?_, fun flight => ?_, fun flight => ?_⟩
  · rw [Resting, line] at rests
    simp at rests
  · rw [none] at waits
    cases waits
  · exact absurd (feed ▸ flight) noRelease
  · exact absurd (feed ▸ flight) noDrain

/-- A line that stays at rest. -/
theorem feedSound_stay {fs : List Part} {s t : State} (sound : FeedSound s) (still : ¬ Moving s) (only : Only fs s t)
    (empty : Resting t → s.track = []) (tags : .tags ∉ fs := by simp)
    (release : .release ∉ fs := by simp) (flights : ∀ x, .flight x ∉ fs := by simp) : FeedSound t := by
  have feed := only.flight_eq .feed (flights .feed)
  obtain ⟨noRelease, noDrain⟩ := sound.unasked still
  exact feedSound_at_rest (fun rests => (only.track_nil tags).mpr (empty rests))
    ((only.release_eq release).trans (sound.still still)) (feed ▸ noRelease)
    (feed ▸ noDrain)

/-- Line, track's tags, release state and the command in flight at Feed untouched. -/
theorem FeedSound.of_flight {fs : List Part} {s t : State} (sound : FeedSound s) (only : Only fs s t)
    (line : .line ∉ fs := by simp) (tags : .tags ∉ fs := by simp)
    (release : .release ∉ fs := by simp) (feed : .flight .feed ∉ fs := by simp) : FeedSound t := by
  have line : t.line = s.line := only.line_eq line
  have release : t.release = s.release := only.release_eq release
  have feed := only.flight_eq .feed feed
  refine ⟨?_, ?_, ?_, ?_, ?_⟩
  · rw [Moving, line, release]; exact sound.still
  · rw [Resting, line, only.track_nil tags]; exact sound.empty
  · rw [release, feed]; exact sound.waiting
  · rw [release, feed, line]; exact sound.asked
  · rw [feed, line]; exact sound.drain

/-- A record enters the track, or leaves it, while the line moves. -/
theorem FeedSound.of_moving {fs : List Part} {s t : State} (sound : FeedSound s) (moving : Moving s) (only : Only fs s t)
    (release : t.release = s.release ∨ t.release = s.releaseAfterGrant) (line : .line ∉ fs := by simp)
    (flights : ∀ x, .flight x ∉ fs := by simp) : FeedSound t := by
  have line : t.line = s.line := only.line_eq line
  have feed := only.flight_eq .feed (flights .feed)
  refine ⟨fun still => ?_, fun rests => ?_, fun waits => ?_, fun flight => ?_, ?_⟩
  · rw [Moving, line] at still
    exact absurd moving still
  · rw [Resting, line] at rests
    exact absurd moving ((not_moving_iff s).mpr (.inl rests))
  · rw [feed]
    rcases release with same | after
    · exact sound.waiting (same ▸ waits)
    · rw [after, releaseAfterGrant_eq_ite] at waits
      by_contra other
      simp [other] at waits
  · rw [feed] at flight
    refine ⟨line.trans (sound.asked flight).1, ?_⟩
    rcases release with same | after
    · exact same ▸ (sound.asked flight).2
    · rw [after, releaseAfterGrant_eq_ite, if_pos flight]
      simp
  · rw [feed, line]
    exact sound.drain

theorem abort_feedSound {s : State} {x : PortId} {k : Flight} (call : Bool) (flight : s.flight x = some k)
    (listed : FlightsListed s) (sound : FeedSound s) : FeedSound ((abortEffect k s).complete x call .aborted) := by
  have only := (abortEffect_only k s).trans (complete_only _ x call .aborted)
  have line : ((abortEffect k s).complete x call .aborted).line = s.line := only .line (by simp)
  have release : ((abortEffect k s).complete x call .aborted).release = (abortEffect k s).release :=
    complete_only _ x call .aborted .release (by simp)
  have stays : (abortEffect k s).release = .none ∨ (abortEffect k s).release = s.release := by
    rcases abortEffect_release k s with same | ⟨-, none⟩
    · exact .inr same
    · exact .inl none
  have empty : Resting ((abortEffect k s).complete x call .aborted) →
      ((abortEffect k s).complete x call .aborted).track = [] := by
    rw [Resting, line, only.track_nil]
    exact sound.empty
  have still : ¬ Moving ((abortEffect k s).complete x call .aborted) →
      ((abortEffect k s).complete x call .aborted).release = .none := by
    rw [Moving, line, release]
    intro stands
    rcases stays with none | same
    · exact none
    · exact same.trans (sound.still stands)
  by_cases feed : x = .feed
  · subst feed
    have ended := complete_flight (abortEffect k s) .feed call .aborted
    refine ⟨still, empty, fun waits => ?_, fun f => ?_, fun f => ?_⟩
    · rw [release] at waits
      rcases stays with none | same
      · rw [none] at waits
        cases waits
      · have asked := sound.waiting (same ▸ waits)
        rw [flight] at asked
        cases asked
        rw [abortEffect_release_waiting (same ▸ waits)] at waits
        cases waits
    · rw [ended] at f
      cases f
    · rw [ended] at f
      cases f
  · have same : (abortEffect k s).release = s.release := by
      rcases abortEffect_release k s with same | ⟨rfl, -⟩
      · exact same
      · exact absurd (listed x _ flight) feed
    have kept : ((abortEffect k s).complete x call .aborted).flight .feed = s.flight .feed :=
      only.flight_eq .feed (by simp [Ne.symm feed])
    refine ⟨still, empty, ?_, ?_, ?_⟩
    · rw [release, same, kept]
      exact sound.waiting
    · rw [release, same, kept, line]
      exact sound.asked
    · rw [kept, line]
      exact sound.drain

theorem enterJam_line (s : State) (c : JamCause) (x : Cell) : (s.enterJam c x).line = .jammed := by
  unfold State.enterJam
  exact (((bump_only _ .jams).trans (raise_only _ .feed .jam)).trans
    ((raise_only _ .print .jam).trans (raise_only _ .super .jam))).line_eq

/-- What follows the line's entry into a jam (R149). -/
theorem jam_after_entry (s : State) (c : JamCause) (x : Cell) :
    Only ([.track, .read, .head .high, .head .low, .live, .flags .super, .routes, .stages, .gates, .stallTimer, .release] ++
      endParts .feed) (s.enterJam c x) (s.jam c x) :=
  (((((jamRead_only _).trans (jamHead_only _ .high)).trans (jamHead_only _ .low)).trans (holdTrack_only _)).trans
    (jamInduction_only _)).within

theorem jam_line (s : State) (c : JamCause) (x : Cell) : (s.jam c x).line = .jammed :=
  (jam_after_entry s c x).line_eq.trans (enterJam_line s c x)

theorem jam_feedSound (s : State) (c : JamCause) (x : Cell) : FeedSound (s.jam c x) := by
  have line := jam_line s c x
  obtain ⟨noRelease, noDrain⟩ := jamInduction_flight _
  exact feedSound_at_rest (by simp [Resting, line]) (jam_release s c x) noRelease noDrain

theorem judgeGrant_feedSound {s : State} (sound : FeedSound s) : FeedSound s.judgeGrant := by
  have only := judgeGrant_only s
  rcases judgeGrant_cases s with ⟨waiting, permit, granted⟩ | same
  · have line : s.judgeGrant.line = .running := only.line_eq.trans (permit_running permit)
    have release : s.judgeGrant.release = .granted s.pos := by
      rw [granted]
      exact completeFlight_only _ .feed .done .release (by simp)
    have ended : s.judgeGrant.flight .feed = none := by rw [granted, completeFlight_flight]
    refine ⟨fun still => absurd (moving_of_line line (.inl rfl)) still, fun rests => ?_, fun waits => ?_, fun f => ?_,
      fun f => ?_⟩
    · rw [Resting, line] at rests
      simp at rests
    · rw [release] at waits
      cases waits
    · rw [ended] at f
      cases f
    · rw [ended] at f
      cases f
  · rw [same]
    exact sound

theorem finishDrain_feedSound {s : State} (sound : FeedSound s) : FeedSound s.finishDrain := by
  rcases finishDrain_cases s with ⟨⟨line, track, release⟩, ended⟩ | same
  · have rested := (setLine_only s .idle).trans (setTimer_only { s with line := .idle } stoppedTimer)
    have only := rested.trans (endDrain_only _)
    have stays : s.finishDrain.line = .idle := by
      rw [ended]
      exact endDrain_only _ .line (by simp)
    have flight : s.finishDrain.flight .feed = if s.flight .feed = some .drain then none else s.flight .feed := by
      rw [ended, endDrain_flight]
      rfl
    have noRelease : s.flight .feed ≠ some .release := fun asked => by
      rw [(sound.asked asked).1] at line
      cases line
    rw [← ended] at only
    refine feedSound_at_rest (fun _ => only.track_nil.mpr track)
      (only.release_eq.trans release) ?_ ?_
    · rw [flight]
      split
      · simp
      · exact noRelease
    · rw [flight]
      split
      · simp
      next other => exact other
  · rw [same]
    exact sound

theorem act_keeps_feed (fs : List Part) (s t : State) (act : Act fs s t) (listed : FlightsListed s)
    (sound : FeedSound s) : FeedSound t := by
  have only := act.only
  cases act
  case powerOn | lineReset =>
    have idle : ∀ (u : State) x, (u.port x).inFlight = none → u.flight x = none := fun u x free => by
      simp [State.flight, free]
    refine feedSound_at_rest (fun _ => rfl) rfl ?_ ?_
    · rw [idle _ _ rfl]
      simp
    · rw [idle _ _ rfl]
      simp
  case jam cause cell => exact jam_feedSound s cause cell
  case wake =>
    unfold State.wake at only ⊢
    split
    next line =>
      rw [if_pos line] at only
      have rests : Resting s := .inr line
      exact feedSound_stay sound ((not_moving_iff s).mpr (.inl rests)) only fun _ => sound.empty rests
    next => exact sound
  case expireGrant =>
    rcases expireGrant_release s with same | lapsed
    · exact sound.of_flight (t := s.expireGrant) (fs := .flags .feed :: countParts) fun p absent => by
        by_cases named : p = .release
        · subst named
          exact same
        · exact only p (by simpa [named] using absent)
    · by_cases moving : Moving s
      · exact sound.of_moving moving only (.inr lapsed)
      · have none := sound.still moving
        have same : s.expireGrant = s := by
          unfold State.expireGrant
          rw [none]
        rw [same]
        exact sound
  case createRecord g granted =>
    exact sound.of_moving (moving_of_granted sound granted) only (.inr (createRecord_release s))
  case arrival r b _ mem =>
    by_cases jammed : s.line = .jammed
    · have line : (s.arrival r b).line = .jammed := only.line_eq.trans jammed
      have stands : ¬ Moving s := (not_moving_iff s).mpr (.inr jammed)
      obtain ⟨noRelease, noDrain⟩ := sound.unasked stands
      have feed : (s.arrival r b).flight .feed = s.flight .feed := only.flight_eq .feed
      exact feedSound_at_rest (by simp [Resting, line])
        (only.release_eq.trans (sound.still stands)) (feed ▸ noRelease)
        (feed ▸ noDrain)
    · have moving : Moving s := by
        by_contra still
        rcases (not_moving_iff s).mp still with rests | jam
        · rw [sound.empty rests] at mem
          cases mem
        · exact jammed jam
      exact sound.of_moving moving only (.inl (only .release (by simp)))
  case judgeGrant => exact judgeGrant_feedSound sound
  case finishDrain => exact finishDrain_feedSound sound
  case abort x call k flight => exact abort_feedSound call flight listed sound
  case start line => exact feedSound_start sound (.inl line) only rfl
  case startFromStandby line => exact feedSound_start sound (.inr line) only rfl
  case release call line =>
    have taken : State.flight (State.takeOff { s with release := s.release.ask } .feed call .release) .feed = some .release :=
      takeOff_flight _ _ _ _
    have asks : s.release.ask ≠ .none := by cases s.release <;> simp [ReleaseState.ask]
    have runs : (State.takeOff { s with release := s.release.ask } .feed call .release).line = .running :=
      only.line_eq.trans line
    refine ⟨fun still => absurd (moving_of_line runs (.inl rfl)) still, fun rests => ?_, fun _ => taken,
      fun _ => ⟨runs, asks⟩, fun flight => ?_⟩
    · rw [Resting, runs] at rests
      simp at rests
    · rw [taken] at flight
      cases flight
  case drainAtOnce line track release =>
    have noRelease : s.flight .feed ≠ some .release := fun asked => (sound.asked asked).2 release
    have noDrain : s.flight .feed ≠ some .drain := fun drain => by
      rw [sound.drain drain] at line
      cases line
    exact feedSound_at_rest (fun _ => track) release noRelease noDrain
  case drain call line free =>
    have taken : State.flight (State.takeOff { s with line := .draining } .feed call .drain) .feed = some .drain :=
      takeOff_flight _ _ _ _
    refine ⟨fun still => absurd (.inr rfl) still, fun rests => ?_, fun waits => ?_, fun asked => ?_, fun _ => rfl⟩
    · exact absurd rests (by simp [State.takeOff, State.setPort])
    · have asked := sound.waiting waits
      rw [State.flight, State.port, free] at asked
      cases asked
    · rw [taken] at asked
      cases asked
  case standby line =>
    exact feedSound_stay sound ((not_moving_iff s).mpr (.inl (.inl line))) only fun _ =>
      sound.empty (.inl line)
  case purge line =>
    have stands : ¬ Moving s := (not_moving_iff s).mpr (.inr line)
    have stays : s.purgeTrack.line = .jammed := only.line_eq.trans line
    obtain ⟨noRelease, noDrain⟩ := sound.unasked stands
    have feed : s.purgeTrack.flight .feed = s.flight .feed := only.flight_eq .feed
    exact feedSound_at_rest (fun _ => purgeTrack_track s)
      (only.release_eq.trans (sound.still stands)) (feed ▸ noRelease) (feed ▸ noDrain)
  case resume line track =>
    exact feedSound_stay sound ((not_moving_iff s).mpr (.inr line)) only fun _ => track
  case nextStage x k l same flight =>
    have here : x = flightPort l := (listed x k flight).trans (sameFlight_port same).symm
    have away : x ≠ .feed := by
      rw [here]
      exact isBlock_port (sameFlight_isBlock same)
    exact sound.of_flight only (feed := by simp [Ne.symm away])
  case endBlock x k code block flight =>
    have away : x ≠ .feed := (listed x k flight) ▸ isBlock_port block
    exact sound.of_flight only (feed := by simp [Ne.symm away])
  all_goals exact sound.of_flight only

end Sys2Proof.Proofs
end

section
/-! PROOFS. What a jam leaves and every step keeps (R26, R107, R135, R149), the stall timer that stands while it does not
run (R14, R29), and with them the line's invariant. -/

-- The proofs are elaborated one after another: the check gives each thread a large stack within a fixed memory.
set_option Elab.async false

namespace Sys2Proof.Proofs

open Sys2Proof.Machine
open Sys2Proof.Claims

/-! ### A jammed line -/

/-- What stands while the line is JAMMED, but for the release state. -/
structure JamStands (s : State) : Prop where
  unread : s.read = .idle
  held   : ∀ p ∈ stagesOf s.track, p = (.held, none)
  closed : s.gates = closedGates
  empty  : ∀ h, (s.head h).active = none ∧ (s.head h).pending = none

def JamSound (s : State) : Prop := s.line = .jammed → JamStands s

theorem JamStands.record {s : State} (stands : JamStands s) {r : Record} (mem : r ∈ s.track) :
    r.stage = .held ∧ r.next = none :=
  Prod.mk.inj (stands.held (r.stage, r.next) (List.mem_map_of_mem mem))

theorem JamStands.of_only {fs : List Part} {s t : State} (stands : JamStands s) (only : Only fs s t)
    (read : .read ∉ fs := by simp) (stages : .stages ∉ fs := by simp) (gates : .gates ∉ fs := by simp)
    (heads : ∀ h, .head h ∉ fs := by simp) : JamStands t where
  unread := (only.read_eq read).trans stands.unread
  held := by rw [show stagesOf t.track = stagesOf s.track from only .stages stages]; exact stands.held
  closed := (only.gates_eq gates).trans stands.closed
  empty h := by rw [only.head_eq h (heads h)]; exact stands.empty h

/-- An operation that leaves the line, and what stands in a jam. -/
theorem JamSound.keep {fs : List Part} {s t : State} (sound : JamSound s) (only : Only fs s t)
    (keeps : JamStands s → JamStands t) (line : .line ∉ fs := by simp) : JamSound t := fun jammed =>
  keeps (sound ((only.line_eq line).symm.trans jammed))

theorem jamSound_of_line {s : State} {l : LineState} (line : s.line = l) (other : l ≠ .jammed) : JamSound s :=
  fun jammed => absurd (line.symm.trans jammed) other

theorem useSamples_read {s : State} (l : LineState) (z : Samples) (idle : s.read = .idle) :
    (s.useSamples l z).read = .idle := by
  unfold State.useSamples
  split
  · split
    · exact (train_only s z).read_eq.trans idle
    · exact idle
  · split
    · rw [idle]
      exact idle
    · exact idle

theorem stepGates_closed {s : State} (closed : s.gates = closedGates) : s.stepGates.gates = closedGates := by
  change tabulate (fun g => g.step s.pos) s.gates = closedGates
  rw [closed]
  unfold tabulate closedGates
  ext i h
  simp [TrayGate.step, TrayGate.refresh, closedGate, clearHold]

/-- A head that holds nothing goes dark. -/
theorem stepHead_of_empty {s : State} {h : HeadId} (empty : (s.head h).active = none) :
    s.stepHead h = s.setHead h (s.head h).dark := by
  unfold State.stepHead
  dsimp only
  split
  · rfl
  next r active => simp [Head.dark, empty] at active

/-- Heads that hold nothing, after one of them is written to hold nothing. -/
theorem heads_empty_setHead {s : State} {h : HeadId} {d : Head}
    (empty : ∀ k, (s.head k).active = none ∧ (s.head k).pending = none) (head : d.active = none ∧ d.pending = none) (k : HeadId) :
    ((s.setHead h d).head k).active = none ∧ ((s.setHead h d).head k).pending = none := by
  by_cases named : k = h
  · subst named
    rwa [State.setHead_head]
  · rw [State.setHead_head_ne _ _ named]
    exact empty k

theorem takeOnline_jamStands {s : State} (h : HeadId) (stands : JamStands s) : JamStands (s.takeOnline h) := by
  have only := takeOnline_only s h
  refine ⟨only.read_eq.trans stands.unread, ?_, only.gates_eq.trans stands.closed, ?_⟩
  · rw [show stagesOf (s.takeOnline h).track = stagesOf s.track from only .stages (by simp)]
    exact stands.held
  · unfold State.takeOnline
    split
    · exact heads_empty_setHead stands.empty ⟨rfl, rfl⟩
    · exact stands.empty

theorem takeOffline_jamStands {s : State} (h : HeadId) (stands : JamStands s) : JamStands (s.takeOffline h) := by
  have only := takeOffline_only s h
  refine ⟨only.read_eq.trans stands.unread, ?_, only.gates_eq.trans stands.closed, ?_⟩
  · rw [show stagesOf (s.takeOffline h).track = stagesOf s.track from only .stages (by simp)]
    exact stands.held
  · unfold State.takeOffline
    split
    · exact stands.empty
    · refine heads_empty_setHead (fun k => ?_) ⟨rfl, rfl⟩
      rw [(settleHead_only s false h).head_eq k]
      exact stands.empty k

theorem stepHead_jamStands {s : State} (h : HeadId) (stands : JamStands s) : JamStands (s.stepHead h) := by
  rw [stepHead_of_empty (stands.empty h).1]
  have only := setHead_only s h (s.head h).dark
  refine ⟨only.read_eq.trans stands.unread, ?_, only.gates_eq.trans stands.closed,
    heads_empty_setHead stands.empty (stands.empty h)⟩
  rw [show stagesOf (s.setHead h (s.head h).dark).track = stagesOf s.track from only .stages (by simp)]
  exact stands.held

theorem trailAtI_jamStands {s : State} (t : Tag) (stands : JamStands s) : JamStands (s.trailAtI t) := by
  have only := trailAtI_only s t
  refine ⟨only.read_eq.trans stands.unread, ?_, only.gates_eq.trans stands.closed, fun h => ?_⟩
  · intro p mem
    obtain ⟨q, written, rfl⟩ := List.mem_map.mp mem
    change q ∈ updTrack t _ s.track at written
    rw [updTrack_eq_map] at written
    obtain ⟨r, known, rfl⟩ := List.mem_map.mp written
    obtain ⟨stage, next⟩ := stands.record known
    split <;> simp [stage, next, afterTrail]
  · rw [only.head_eq h]
    exact stands.empty h

theorem jamRead_read (s : State) : s.jamRead.read = .idle := by
  unfold State.jamRead
  split
  · rfl
  · rfl
  next idle => exact idle

theorem jamHead_empty (s : State) (h : HeadId) :
    ((s.jamHead h).head h).active = none ∧ ((s.jamHead h).head h).pending = none := by
  unfold State.jamHead
  dsimp only
  rw [State.setHead_head]
  exact ⟨rfl, rfl⟩

theorem jam_jamStands (s : State) (c : JamCause) (x : Cell) : JamStands (s.jam c x) := by
  let u := (((s.enterJam c x).jamRead.jamHead .high).jamHead .low)
  have last := jamInduction_only { u with track := u.track.map Record.held, gates := closedGates, stallTimer := stoppedTimer }
  have heads := (holdTrack_only u).trans last
  refine ⟨?_, ?_, last.gates_eq, fun h => ?_⟩
  · exact ((((jamHead_only _ .high).trans (jamHead_only _ .low)).trans heads).read_eq).trans (jamRead_read _)
  · have held : stagesOf (s.jam c x).track = stagesOf (u.track.map Record.held) := last .stages (by simp)
    intro p mem
    rw [held] at mem
    obtain ⟨q, written, rfl⟩ := List.mem_map.mp mem
    obtain ⟨r, -, rfl⟩ := List.mem_map.mp written
    rfl
  · cases h with
    | low =>
      rw [show (s.jam c x).head .low = u.head .low from heads.head_eq .low]
      exact jamHead_empty _ .low
    | high =>
      rw [show (s.jam c x).head .high = ((s.enterJam c x).jamRead.jamHead .high).head .high from
        ((jamHead_only _ .low).trans heads).head_eq .high]
      exact jamHead_empty _ .high

theorem act_keeps_jam (fs : List Part) (s t : State) (act : Act fs s t) (feed : FeedSound s) (sound : JamSound s) :
    JamSound t := by
  have only := act.only
  cases act
  case powerOn | lineReset | drainAtOnce | resume => exact jamSound_of_line (l := .idle) rfl (by decide)
  case start | startFromStandby => exact jamSound_of_line (l := .running) rfl (by decide)
  case drain => exact jamSound_of_line (l := .draining) rfl (by decide)
  case standby => exact jamSound_of_line (l := .standby) rfl (by decide)
  case jam cause cell => exact fun _ => jam_jamStands s cause cell
  case wake =>
    unfold State.wake
    split
    · exact jamSound_of_line rfl (by simp)
    · exact sound
  case finishDrain =>
    rcases finishDrain_cases s with ⟨-, ended⟩ | same
    · rw [ended]
      exact jamSound_of_line (endDrain_only _).line_eq (by simp)
    · rw [same]
      exact sound
  case useSamples l z =>
    refine sound.keep only fun stands => ⟨useSamples_read l z stands.unread, ?_, only.gates_eq.trans stands.closed, ?_⟩
    · rw [show stagesOf (s.useSamples l z).track = stagesOf s.track from only .stages (by simp)]
      exact stands.held
    · exact fun h => by rw [only.head_eq h]; exact stands.empty h
  case abandonRead r ch read | completeRead r ch read =>
    exact sound.keep only fun stands => absurd (read.symm.trans stands.unread) (by simp)
  case completeOverrun r read =>
    exact sound.keep only fun stands => absurd (read.symm.trans stands.unread) (by simp)
  case stepHead h => exact sound.keep only (stepHead_jamStands h)
  case stepGates =>
    exact sound.keep only fun stands => ⟨stands.unread, stands.held, stepGates_closed stands.closed, stands.empty⟩
  case createRecord g granted =>
    refine jamSound_of_line only.line_eq fun jammed => ?_
    exact (not_moving_iff s).mpr (.inr jammed) (moving_of_granted feed granted)
  case arrival r b next mem =>
    exact sound.keep only fun stands => absurd (next.symm.trans (stands.record mem).2) (by simp)
  case pass x r next noBin mem _ =>
    exact sound.keep only fun stands => absurd (next.symm.trans (stands.record mem).2) (by simp)
  case trailAtI t => exact sound.keep only (trailAtI_jamStands t)
  case takeOnline h => exact sound.keep only (takeOnline_jamStands h)
  case takeOffline h => exact sound.keep only (takeOffline_jamStands h) (by simp)
  case purge =>
    refine sound.keep only fun stands => ⟨only.read_eq.trans stands.unread, ?_, only.gates_eq.trans stands.closed, ?_⟩
    · rw [purgeTrack_track]
      exact fun p mem => absurd mem (List.not_mem_nil)
    · exact fun h => by rw [only.head_eq h]; exact stands.empty h
  all_goals exact sound.keep only fun stands => stands.of_only only

/-! ### The stall timer -/

/-- The stall timer stands while the line does not move or the track is empty (R14, R29). -/
def TimerSound (s : State) : Prop := ¬ Moving s ∨ s.track = [] → s.stallTimer = stoppedTimer

theorem TimerSound.of_only {fs : List Part} {s t : State} (sound : TimerSound s) (only : Only fs s t)
    (line : .line ∉ fs := by simp) (tags : .tags ∉ fs := by simp) (timer : .stallTimer ∉ fs := by simp) :
    TimerSound t := by
  intro stands
  rw [Moving, only.line_eq line, only.track_nil tags] at stands
  exact (show t.stallTimer = s.stallTimer from only .stallTimer timer).trans (sound stands)

theorem timerSound_of_stopped {s : State} (stopped : s.stallTimer = stoppedTimer) : TimerSound s := fun _ => stopped

/-- A line that comes from rest brings a stopped timer. -/
theorem timerSound_of_still {s t : State} (sound : TimerSound s) (still : ¬ Moving s)
    (same : t.stallTimer = s.stallTimer) : TimerSound t :=
  timerSound_of_stopped (same.trans (sound (.inl still)))

theorem afterRemoval_timer (s : State) :
    s.afterRemoval.stallTimer = if s.track = [] then stoppedTimer else s.stallTimer := by
  unfold State.afterRemoval
  by_cases empty : s.track = []
  · rw [if_pos empty, if_pos (by simpa using empty)]
  · rw [if_neg empty, if_neg (by simpa using empty)]

theorem arrival_timerSound {s : State} (r : Record) (b : Bin) (sound : TimerSound s) : TimerSound (s.arrival r b) := by
  obtain ⟨u, eq, before⟩ := arrival_parts s r b
  have kept : u.stallTimer = s.stallTimer := before .stallTimer (by simp)
  have line : (s.arrival r b).line = s.line := (arrival_only s r b).line_eq
  have timer : (s.arrival r b).stallTimer = if (s.arrival r b).track = [] then stoppedTimer else s.stallTimer := by
    rw [eq, removeRec_track, ← kept]
    exact afterRemoval_timer _
  intro stands
  rw [timer]
  split
  · rfl
  next more =>
    rw [Moving, line] at stands
    exact sound (.inl (stands.resolve_right more))

theorem timerRuns_iff (s : State) : s.timerRuns = true ↔ Moving s ∧ s.track ≠ [] := by
  simp [State.timerRuns, State.moving, Moving]

theorem countStall_cases (s : State) : (Moving s ∧ s.track ≠ []) ∨ s.countStall = s := by
  unfold State.countStall
  split
  next runs => exact .inl ((timerRuns_iff s).mp (Bool.and_eq_true_iff.mp runs).1)
  next => exact .inr rfl

theorem expireStall_cases (s : State) : (Moving s ∧ s.track ≠ []) ∨ s.expireStall = s := by
  unfold State.expireStall
  split
  next due =>
    refine .inl ((timerRuns_iff s).mp ?_)
    simp only [State.stallDue, Bool.and_eq_true] at due
    exact due.1.1
  next => exact .inr rfl

/-- A timer that runs may do as it likes. -/
theorem timerSound_of_running {fs : List Part} {s t : State} (runs : Moving s ∧ s.track ≠ []) (only : Only fs s t)
    (line : .line ∉ fs := by simp) (tags : .tags ∉ fs := by simp) : TimerSound t := by
  intro stands
  rw [Moving, only.line_eq line, only.track_nil tags] at stands
  exact absurd stands fun either => either.elim (fun still => still runs.1) runs.2

theorem act_keeps_timer (fs : List Part) (s t : State) (act : Act fs s t) (feed : FeedSound s) (sound : TimerSound s) :
    TimerSound t := by
  have only := act.only
  cases act
  case powerOn | lineReset | advance | drainAtOnce => exact timerSound_of_stopped rfl
  case jam => exact timerSound_of_stopped ((jamInduction_only _) .stallTimer (by simp))
  case wake =>
    unfold State.wake
    split
    next line => exact timerSound_of_still sound ((not_moving_iff s).mpr (.inl (.inr line))) rfl
    next => exact sound
  case createRecord g granted =>
    have moving : Moving s.createRecord := by
      rw [Moving, only.line_eq]
      exact moving_of_granted feed granted
    intro stands
    rw [createRecord_track] at stands
    exact absurd stands fun either => either.elim (fun still => still moving) (by simp)
  case arrival r b _ _ => exact arrival_timerSound r b sound
  case countStall =>
    rcases countStall_cases s with runs | same
    · exact timerSound_of_running runs only
    · rw [same]
      exact sound
  case expireStall =>
    rcases expireStall_cases s with runs | same
    · exact timerSound_of_running runs only
    · rw [same]
      exact sound
  case finishDrain =>
    rcases finishDrain_cases s with ⟨-, ended⟩ | same
    · rw [ended]
      exact timerSound_of_stopped (endDrain_only _ .stallTimer (by simp))
    · rw [same]
      exact sound
  case start line | standby line => exact timerSound_of_still sound ((not_moving_iff s).mpr (.inl (.inl line))) rfl
  case startFromStandby line => exact timerSound_of_still sound ((not_moving_iff s).mpr (.inl (.inr line))) rfl
  case resume line _ => exact timerSound_of_still sound ((not_moving_iff s).mpr (.inr line)) rfl
  case drain call line _ =>
    intro stands
    have empty : s.track = [] := stands.resolve_left fun still => still (.inr rfl)
    exact sound (.inr empty)
  case purge => exact timerSound_of_stopped ((afterRemoval_timer _).trans (if_pos rfl))
  all_goals exact sound.of_only only

/-! ### The line's invariant -/

theorem lineSound_iff (s : State) : LineSound s ↔ FlightsListed s ∧ FeedSound s ∧ JamSound s ∧ TimerSound s := by
  constructor
  · intro sound
    refine ⟨sound.listed, ⟨fun still => ?_, fun rests => (sound.resting rests).1, sound.waiting, sound.asked, sound.drain⟩,
      fun jammed => ⟨(sound.jammed jammed).2.1, fun p mem => ?_, sound.closed jammed, sound.empty jammed⟩, sound.timer⟩
    · exact ((not_moving_iff s).mp still).elim (fun rests => (sound.resting rests).2) fun jammed => (sound.jammed jammed).1
    · obtain ⟨r, known, rfl⟩ := List.mem_map.mp mem
      obtain ⟨stage, next⟩ := (sound.jammed jammed).2.2 r known
      rw [stage, next]
  · rintro ⟨listed, feed, jam, timer⟩
    exact ⟨fun rests => ⟨feed.empty rests, feed.still ((not_moving_iff s).mpr (.inl rests))⟩,
      fun jammed => ⟨feed.still ((not_moving_iff s).mpr (.inr jammed)), (jam jammed).unread,
        fun r mem => (jam jammed).record mem⟩,
      fun jammed => (jam jammed).closed, fun jammed => (jam jammed).empty, timer, feed.waiting, feed.asked, feed.drain,
      listed⟩

theorem act_keeps_line (fs : List Part) (s t : State) (act : Act fs s t) (sound : LineSound s) : LineSound t := by
  obtain ⟨listed, feed, jam, timer⟩ := (lineSound_iff s).mp sound
  exact (lineSound_iff t).mpr
    ⟨act_keeps_listed fs s t act listed, act_keeps_feed fs s t act listed feed, act_keeps_jam fs s t act feed jam,
      act_keeps_timer fs s t act feed timer⟩

theorem lineSound_of_queue {s : State} (l : List Instr) (sound : LineSound s) : LineSound { s with pending := l } :=
  ⟨sound.resting, sound.jammed, sound.closed, sound.empty, sound.timer, sound.waiting, sound.asked, sound.drain,
    sound.listed⟩

/-- Settles O18: the three parts of the invariant, act by act. -/
theorem stepsKeepTheLineSound : Obligations.StepsKeepTheLineSound :=
  step_keeps act_keeps_line fun _ l sound => lineSound_of_queue l sound

end Sys2Proof.Proofs
end

section
/-! PROOFS. The two laws of the counts (R28, R137), which every step keeps. -/

-- The proofs are elaborated one after another: the check gives each thread a large stack within a fixed memory.
set_option Elab.async false

namespace Sys2Proof.Proofs

open Sys2Proof.Machine
open Sys2Proof.Claims

/-! ### The counters of the laws -/

/-- A counter the laws speak of. -/
def OfLaw (v : Tally) : Prop := v = .inducted ∨ v = .exited ∨ v = .purged ∨ ∃ b, v = .arrivals b

/-- The laws of the counts, by the counters' names. -/
structure Laws (s : State) : Prop where
  inducted : s.tally .inducted < tallyMax → s.tally .exited < tallyMax → s.tally .purged < tallyMax →
    s.tally .inducted = s.track.length + s.tally .exited + s.tally .purged
  exited : s.tally .exited < tallyMax → (∀ b, s.tally (.arrivals b) < tallyMax) → s.tally .exited = arrivalsSum s

theorem balanced_iff_laws (s : State) : Balanced s ↔ Laws s :=
  ⟨fun sound => ⟨sound.inducted, sound.exited⟩, fun sound => ⟨sound.inducted, sound.exited⟩⟩

/-- The sum of the arrivals, by the counters' names. -/
theorem arrivalsSum_eq (s : State) :
    arrivalsSum s = s.tally (.arrivals .endTray) + s.tally (.arrivals (.tray 0)) + s.tally (.arrivals (.tray 1)) +
      s.tally (.arrivals (.tray 2)) + s.tally (.arrivals (.tray 3)) + s.tally (.arrivals (.tray 4)) +
      s.tally (.arrivals (.tray 5)) := rfl

theorem arrivalsSum_congr {s t : State} (same : ∀ b, t.tally (.arrivals b) = s.tally (.arrivals b)) :
    arrivalsSum t = arrivalsSum s := by
  rw [arrivalsSum_eq, arrivalsSum_eq, same, same, same, same, same, same, same]

/-- One more arrival in one bin. -/
theorem arrivalsSum_succ {s t : State} {b : Bin} (own : t.tally (.arrivals b) = s.tally (.arrivals b) + 1)
    (others : ∀ c, c ≠ b → t.tally (.arrivals c) = s.tally (.arrivals c)) : arrivalsSum t = arrivalsSum s + 1 := by
  have each (c : Bin) : t.tally (.arrivals c) = s.tally (.arrivals c) + if c = b then 1 else 0 := by
    by_cases named : c = b
    · subst named
      rw [own, if_pos rfl]
    · rw [others c named, if_neg named, Nat.add_zero]
  have sum : (if Bin.endTray = b then 1 else 0) + (if Bin.tray 0 = b then 1 else 0) + (if Bin.tray 1 = b then 1 else 0) +
      (if Bin.tray 2 = b then 1 else 0) + (if Bin.tray 3 = b then 1 else 0) + (if Bin.tray 4 = b then 1 else 0) +
      (if Bin.tray 5 = b then 1 else 0) = 1 := by
    cases b with
    | endTray => rfl
    | tray k => match k with | 0 | 1 | 2 | 3 | 4 | 5 => rfl
  rw [arrivalsSum_eq, arrivalsSum_eq, each, each, each, each, each, each, each]
  omega

/-- An operation that leaves the track's length and the laws' counters. -/
theorem Laws.keep {s t : State} (sound : Laws s) (length : t.track.length = s.track.length)
    (same : ∀ v, OfLaw v → t.tally v = s.tally v) : Laws t := by
  obtain ⟨inducted, exited⟩ := sound
  have arrivals (b : Bin) : t.tally (.arrivals b) = s.tally (.arrivals b) := same _ (.inr (.inr (.inr ⟨b, rfl⟩)))
  refine ⟨?_, ?_⟩
  · rw [same .inducted (.inl rfl), same .exited (.inr (.inl rfl)), same .purged (.inr (.inr (.inl rfl))), length]
    exact inducted
  · rw [same .exited (.inr (.inl rfl)), arrivalsSum_congr arrivals]
    simp only [arrivals]
    exact exited

theorem Laws.of_only {fs : List Part} {s t : State} (sound : Laws s) (only : Only fs s t) (tags : .tags ∉ fs := by simp)
    (live : .live ∉ fs := by simp) : Laws t :=
  sound.keep (only.track_length tags) fun v _ => congrArg (fun l : Vector Nat 32 => l[tallyIx v]) (only .live live)

/-- A ledger without a counter of the laws. -/
theorem Laws.of_ledger {vs : List Tally} {e : Byte} {fs : List Part} {s t : State} (sound : Laws s) (ledger : Ledger vs e s t)
    (only : Only fs s t) (tags : .tags ∉ fs := by simp) (others : ∀ v ∈ vs, ¬ OfLaw v := by simp [OfLaw]) : Laws t :=
  sound.keep (only.track_length tags) fun v law => ledger.others v fun mem => others v mem law

/-- An empty track with every counter 0. -/
theorem laws_of_cleared {s : State} (track : s.track = []) (live : s.live = Vector.replicate 32 0) : Laws s := by
  have zero (v : Tally) : s.tally v = 0 := by rw [State.tally, live]; simp
  refine ⟨fun _ _ _ => ?_, fun _ _ => ?_⟩
  · rw [zero, zero, zero, track]
    rfl
  · rw [arrivalsSum_eq]
    simp only [zero]

/-- Every record leaves the track and is counted in Purged (R28, R138). -/
theorem laws_of_purged {s t : State} (sound : Laws s) (track : t.track = [])
    (purged : t.tally .purged = raised s .purged s.track.length)
    (same : ∀ v, OfLaw v → v ≠ .purged → t.tally v = s.tally v) : Laws t := by
  obtain ⟨inducted, exited⟩ := sound
  have arrivals (b : Bin) : t.tally (.arrivals b) = s.tally (.arrivals b) :=
    same _ (.inr (.inr (.inr ⟨b, rfl⟩))) (by simp)
  refine ⟨fun below belowExited belowPurged => ?_, ?_⟩
  · rw [same .inducted (.inl rfl) (by decide)] at below ⊢
    rw [same .exited (.inr (.inl rfl)) (by decide)] at belowExited ⊢
    rw [purged] at belowPurged ⊢
    have law := inducted below belowExited
    unfold raised at *
    unfold tallyMax at *
    rw [track]
    simp only [List.length_nil]
    omega
  · rw [same .exited (.inr (.inl rfl)) (by decide), arrivalsSum_congr arrivals]
    simp only [arrivals]
    exact exited

/-! ### Creations and arrivals -/

theorem createRecord_laws {s : State} (sound : Laws s) : Laws s.createRecord := by
  obtain ⟨inducted, exited⟩ := sound
  have ledger := createRecord_ledger s
  have raisedTo : s.createRecord.tally .inducted = raised s .inducted 1 := bump_tally_self _ .inducted
  have same (v : Tally) (other : v ≠ .inducted) : s.createRecord.tally v = s.tally v :=
    ledger.others v (by simpa using other)
  refine ⟨?_, ?_⟩
  · rw [raisedTo, same .exited (by decide), same .purged (by decide), createRecord_track, List.length_append]
    intro below belowExited belowPurged
    unfold raised tallyMax at *
    have law := inducted (by omega) belowExited belowPurged
    simp only [List.length_singleton]
    omega
  · rw [same .exited (by decide), arrivalsSum_congr fun b => same _ (by simp)]
    simp only [fun b => same (.arrivals b) (by simp)]
    exact exited

theorem bumpBy_live (s : State) (t : Tally) (n : Nat) :
    (s.bumpBy t n).live = s.live.set (tallyIx t) (min (s.tally t + n) tallyMax) := by
  by_cases sat : Saturates s t n
  · rw [bumpBy_saturating sat, raise_live]
    rfl
  · rw [bumpBy_silent sat]
    rfl

/-- A raise reads the counters alone. -/
theorem bump_tally_congr {s t : State} (live : t.live = s.live) (u v : Tally) : (t.bump u).tally v = (s.bump u).tally v := by
  have same (w : Tally) : t.tally w = s.tally w := congrArg (fun l : Vector Nat 32 => l[tallyIx w]) live
  rw [State.tally, State.tally, State.bump, State.bump, bumpBy_live, bumpBy_live, live, same]

theorem bump_live_congr {s t : State} (live : t.live = s.live) (u : Tally) : (t.bump u).live = (s.bump u).live := by
  have same : t.tally u = s.tally u := congrArg (fun l : Vector Nat 32 => l[tallyIx u]) live
  rw [State.bump, State.bump, bumpBy_live, bumpBy_live, live, same]

/-- An arrival raises the bin's counter and Exited by one each (R129). -/
theorem countArrival_live (s : State) (b : Bin) (t : Tag) :
    (s.countArrival b t).live = ((s.bump (.arrivals b)).bump .exited).live := by
  have counted (e : BinEntry) :
      ((((s.setBin b e).bump (.arrivals b)).bump .exited).holdGate b t).live = ((s.bump (.arrivals b)).bump .exited).live :=
    (holdGate_only _ b t).live_eq.trans (bump_live_congr (bump_live_congr (setBin_only s b e).live_eq _) _)
  unfold State.countArrival
  dsimp only
  split
  · exact (enterFull_only _ b).live_eq.trans (counted _)
  · exact counted _

/-- An arrival's counters, those of the laws (R129). -/
theorem arrival_tally (s : State) (r : Record) (b : Bin) {v : Tally} (other : v ≠ .incompleteMarks) :
    (s.arrival r b).tally v = ((s.bump (.arrivals b)).bump .exited).tally v := by
  have left : (s.leaveRead r.tag).live = s.live := leaveRead_only s r.tag .live (by simp)
  have removed := (removeRec_only (((s.leaveRead r.tag).countArrival b r.tag).departMark r) r.tag).ledger
  have departed := (departMark_ledger ((s.leaveRead r.tag).countArrival b r.tag) r).trans removed
  calc (s.arrival r b).tally v = ((s.leaveRead r.tag).countArrival b r.tag).tally v :=
        departed.others v (by simpa using other)
    _ = (((s.leaveRead r.tag).bump (.arrivals b)).bump .exited).tally v := by rw [State.tally, State.tally, countArrival_live]
    _ = ((s.bump (.arrivals b)).bump .exited).tally v := bump_tally_congr (bump_live_congr left _) _ _

theorem arrival_tally_exited (s : State) (r : Record) (b : Bin) : (s.arrival r b).tally .exited = raised s .exited 1 := by
  rw [arrival_tally s r b (by decide), bump_tally_self, raised, bump_tally_ne _ (by simp)]
  rfl

theorem arrival_tally_arrivals (s : State) (r : Record) (b : Bin) :
    (s.arrival r b).tally (.arrivals b) = raised s (.arrivals b) 1 := by
  rw [arrival_tally s r b (by simp), bump_tally_ne _ (by simp), bump_tally_self]

theorem arrival_tally_other (s : State) (r : Record) (b : Bin) {v : Tally} (marks : v ≠ .incompleteMarks)
    (exited : v ≠ .exited) (arrivals : v ≠ .arrivals b) : (s.arrival r b).tally v = s.tally v := by
  rw [arrival_tally s r b marks, bump_tally_ne _ exited, bump_tally_ne _ arrivals]

theorem filter_bne_length {l : List Tag} {t : Tag} (mem : t ∈ l) (distinct : l.Nodup) :
    (l.filter fun u => u != t).length + 1 = l.length := by
  rw [← distinct.erase_eq_filter, List.length_erase_of_mem mem]
  have some := List.length_pos_of_mem mem
  omega

theorem arrival_length {s : State} {r : Record} (b : Bin) (mem : r ∈ s.track) (distinct : (tagsOf s.track).Nodup) :
    (s.arrival r b).track.length + 1 = s.track.length := by
  rw [track_length, track_length, arrival_tags]
  exact filter_bne_length (mem_tagsOf mem) distinct

theorem arrival_laws {s : State} {r : Record} {b : Bin} (sound : Laws s) (mem : r ∈ s.track)
    (distinct : (tagsOf s.track).Nodup) : Laws (s.arrival r b) := by
  obtain ⟨inducted, exited⟩ := sound
  have length := arrival_length b mem distinct
  refine ⟨?_, fun belowExited belowArrivals => ?_⟩
  · rw [arrival_tally_exited, arrival_tally_other s r b (by decide) (by decide) (by simp),
      arrival_tally_other s r b (by decide) (by decide) (by simp)]
    intro below belowExited belowPurged
    unfold raised tallyMax at *
    have law := inducted below (by omega) belowPurged
    omega
  · have own := belowArrivals b
    rw [arrival_tally_exited] at belowExited ⊢
    rw [arrival_tally_arrivals] at own
    unfold raised tallyMax at *
    have others (c : Bin) (other : c ≠ b) : (s.arrival r b).tally (.arrivals c) = s.tally (.arrivals c) :=
      arrival_tally_other s r b (by simp) (by simp) (by simpa using other)
    have before (c : Bin) : s.tally (.arrivals c) < 4294967295 := by
      by_cases named : c = b
      · subst named
        omega
      · rw [← others c named]
        exact belowArrivals c
    have law := exited (by omega) before
    rw [arrivalsSum_succ (b := b) (by rw [arrival_tally_arrivals, raised]; omega) others]
    omega

/-! ### Every step -/

theorem lineReset_tally (s : State) (cause : ResetCause) {v : Tally} (other : v ≠ .lineResets) :
    (s.lineReset cause).tally v = (s.addTally .purged s.track.length).tally v :=
  addTally_tally_ne _ 1 other

theorem act_keeps_laws (fs : List Part) (s t : State) (act : Act fs s t) (track : TrackSound s) (line : LineSound s)
    (sound : Laws s) : Laws t := by
  have only := act.only
  cases act
  case powerOn => exact laws_of_cleared rfl rfl
  case lineReset cause =>
    refine laws_of_purged sound rfl ?_ fun v law other => ?_
    · rw [lineReset_tally s cause (by decide), State.addTally_tally]
      rfl
    · have reset : v ≠ .lineResets := by
        rcases law with rfl | rfl | rfl | ⟨b, rfl⟩ <;> simp
      rw [lineReset_tally s cause reset, addTally_tally_ne _ _ other]
  case jam cause cell => exact sound.of_ledger (jam_ledger s cause cell) only
  case abandonRead r ch _ => exact sound.of_ledger (abandonRead_ledger s r ch).choose_spec only
  case stepHead h => exact sound.of_ledger (stepHead_ledger s h) only
  case expireGrant => exact sound.of_ledger (expireGrant_ledger s) only
  case strayEdge => exact sound.of_ledger (bump_ledger s .strayEdges) only
  case createRecord => exact createRecord_laws sound
  case arrival r b _ mem => exact arrival_laws sound mem track.distinct
  case pass r _ noBin _ _ => exact sound.of_ledger (matched_pass_ledger s r noBin) only
  case completeRead r ch _ => exact sound.of_ledger (completeRead_ledger s r ch).choose_spec only
  case expireStall => exact sound.of_ledger (expireStall_ledger s).choose_spec only
  case takeOffline h => exact sound.of_ledger (takeOffline_ledger s h) only
  case clearTallies rest =>
    exact laws_of_cleared (s := { s with live := Vector.replicate 32 0, throughput := freshThroughput })
      (line.resting ((atRest_iff_resting s).mp rest)).1 rfl
  case purge =>
    refine laws_of_purged sound (purgeTrack_track s) ?_ fun v law other => ?_
    · have closed : s.closeAllHeld.live = s.live := foldl_closeHeld_only s.track s .live (by simp)
      have counted : s.purgeTrack.live = (s.closeAllHeld.bumpBy .purged s.track.length).live :=
        emptyTrack_only _ .live (by simp)
      have before : s.closeAllHeld.tally .purged = s.tally .purged := by rw [State.tally, State.tally, closed]
      rw [State.tally, counted]
      exact (bumpBy_tally_self _ _ _).trans (by rw [raised, before]; rfl)
    · exact (purgeTrack_ledger s).others v (by simpa using other)
  all_goals exact sound.of_only only

theorem act_keeps_books (fs : List Part) (s t : State) (act : Act fs s t) (sound : BooksSound s) : BooksSound t where
  track := act_keeps_track fs s t act sound.track
  line := act_keeps_line fs s t act sound.line
  balanced := (balanced_iff_laws t).mpr
    (act_keeps_laws fs s t act sound.track sound.line ((balanced_iff_laws s).mp sound.balanced))

theorem trackSound_of_queue {s : State} (l : List Instr) (sound : TrackSound s) : TrackSound { s with pending := l } :=
  ⟨sound.room, sound.distinct, sound.fresh, sound.granted⟩

/-- Settles O20: a record that comes or goes is counted as it does. -/
theorem stepsKeepTheBooksBalanced : Obligations.StepsKeepTheBooksBalanced :=
  step_keeps act_keeps_books fun _ l sound =>
    ⟨trackSound_of_queue l sound.track, lineSound_of_queue l sound.line, sound.balanced.inducted, sound.balanced.exited⟩

end Sys2Proof.Proofs
end

section
/-! PROOFS. The bin table entry by entry (R124, R129 to R133): what each operation leaves of it. -/

-- The proofs are elaborated one after another: the check gives each thread a large stack within a fixed memory.
set_option Elab.async false

namespace Sys2Proof.Proofs

open Sys2Proof.Machine
open Sys2Proof.Claims

/-! ### Entries -/

theorem binIx_injective : Function.Injective binIx := by
  intro b c same
  cases b with
  | endTray =>
    cases c with
    | endTray => rfl
    | tray l => exact absurd (congrArg Fin.val same) (by simp [binIx])
  | tray k =>
    cases c with
    | endTray => exact absurd (congrArg Fin.val same) (by simp [binIx])
    | tray l =>
      have val := congrArg Fin.val same
      simp only [binIx, Nat.add_right_cancel_iff] at val
      exact congrArg Bin.tray (Fin.ext val)

theorem setBin_bin_self (s : State) (b : Bin) (e : BinEntry) : (s.setBin b e).bin b = e := by
  simp [State.bin, State.setBin]

theorem setBin_bin_ne (s : State) {b c : Bin} (e : BinEntry) (other : c ≠ b) : (s.setBin b e).bin c = s.bin c := by
  have apart : (binIx b).val ≠ (binIx c).val := fun same => other (binIx_injective (Fin.ext same)).symm
  simp [State.bin, State.setBin, apart]

theorem setBin_bin (s : State) (b c : Bin) (e : BinEntry) : (s.setBin b e).bin c = if c = b then e else s.bin c := by
  by_cases named : c = b
  · subst named
    rw [setBin_bin_self, if_pos rfl]
  · rw [setBin_bin_ne s e named, if_neg named]

theorem Only.bins_eq {fs : List Part} {s t : State} (only : Only fs s t) (absent : .bins ∉ fs := by simp) :
    t.bins = s.bins := only .bins absent

theorem Only.bin_eq {fs : List Part} {s t : State} (only : Only fs s t) (b : Bin) (absent : .bins ∉ fs := by simp) :
    t.bin b = s.bin b := congrArg (fun v : Vector BinEntry 7 => v[binIx b]) (only.bins_eq absent)

/-- An entry of the bin table, `behind` saying that a SWAP TRAY of the bin is in flight. -/
structure EntrySound (b : Bin) (e : BinEntry) (behind : Prop) : Prop where
  capacity  : 50 ≤ e.capacity ∧ e.capacity ≤ 4000
  fits      : b ≠ .endTray → e.count + e.bound ≤ e.capacity
  available : e.state = .available → e.count < e.capacity
  full      : e.state = .full → e.capacity ≤ e.count
  swapping  : e.state = .swapping ↔ behind
  withheld  : b ≠ .endTray → e.state = .withheld → e.bound = 0

/-- The bin table is sound. -/
def TableSound (s : State) : Prop := ∀ b, EntrySound b (s.bin b) (s.flight .super = some (.swapTray b))

theorem TableSound.of_only {fs : List Part} {s t : State} (sound : TableSound s) (only : Only fs s t)
    (bins : .bins ∉ fs := by simp) (flight : .flight .super ∉ fs := by simp) : TableSound t := fun b => by
  rw [only.bin_eq b bins, only.flight_eq .super flight]
  exact sound b

/-- The table stands, and so does the SWAP TRAY in flight, if there is one. -/
theorem TableSound.of_swap {s t : State} (sound : TableSound s) (bins : t.bins = s.bins)
    (swap : ∀ b, t.flight .super = some (.swapTray b) ↔ s.flight .super = some (.swapTray b)) : TableSound t := fun b => by
  have entry : t.bin b = s.bin b := congrArg (fun v : Vector BinEntry 7 => v[binIx b]) bins
  obtain ⟨capacity, fits, available, full, swapping, withheld⟩ := sound b
  rw [entry]
  exact ⟨capacity, fits, available, full, swapping.trans (swap b).symm, withheld⟩

/-- One entry is written. -/
theorem TableSound.set {s t : State} {b : Bin} {e : BinEntry} (sound : TableSound s)
    (bins : ∀ c, t.bin c = if c = b then e else s.bin c)
    (swap : ∀ c, c ≠ b → (t.flight .super = some (.swapTray c) ↔ s.flight .super = some (.swapTray c)))
    (entry : EntrySound b e (t.flight .super = some (.swapTray b))) : TableSound t := by
  intro c
  rw [bins c]
  by_cases named : c = b
  · subst named
    rwa [if_pos rfl]
  · rw [if_neg named]
    obtain ⟨capacity, fits, available, full, swapping, withheld⟩ := sound c
    exact ⟨capacity, fits, available, full, swapping.trans (swap c named).symm, withheld⟩

theorem entrySound_fresh {b : Bin} {capacity : Nat} {behind : Prop} (range : 50 ≤ capacity ∧ capacity ≤ 4000)
    (free : ¬ behind) : EntrySound b (freshBin capacity) behind where
  capacity := range
  fits _ := Nat.zero_le _
  available _ := Nat.lt_of_lt_of_le (Nat.zero_lt_succ 49) range.1
  full state := absurd state (by simp [freshBin])
  swapping := by simp [freshBin, free]
  withheld _ _ := rfl

theorem entrySound_lineReset {b : Bin} {e : BinEntry} {behind after : Prop} (sound : EntrySound b e behind)
    (free : ¬ after) : EntrySound b e.lineReset after := by
  obtain ⟨capacity, fits, available, full, -, -⟩ := sound
  unfold BinEntry.lineReset
  refine ⟨capacity, fun tray => ?_, ?_, ?_, ?_, fun _ _ => rfl⟩
  · have before := fits tray
    dsimp only
    omega
  · dsimp only
    split
    · split
      · exact fun _ => ‹_›
      · simp
    · exact available
  · dsimp only
    split
    · split
      · simp
      next short => exact fun _ => not_lt.mp short
    · exact full
  · dsimp only
    split
    · split <;> simp [free]
    next other => simp [other, free]

/-- Every bound 0. -/
theorem entrySound_unbound {b : Bin} {e : BinEntry} {behind : Prop} (sound : EntrySound b e behind) :
    EntrySound b { e with bound := 0 } behind := by
  obtain ⟨capacity, fits, available, full, swapping, -⟩ := sound
  exact ⟨capacity, fun tray => (Nat.le_add_right _ _).trans (fits tray), available, full, swapping, fun _ _ => rfl⟩

/-- A letter bound to a bin that accepts it, or to the end tray (R125). -/
theorem entrySound_bind {b : Bin} {e : BinEntry} {behind : Prop} (sound : EntrySound b e behind)
    (chosen : b = .endTray ∨ e.accepts = true) : EntrySound b { e with bound := e.bound + 1 } behind := by
  obtain ⟨capacity, fits, available, full, swapping, withheld⟩ := sound
  refine ⟨capacity, fun tray => ?_, available, full, swapping, fun tray away => ?_⟩
  · have room := chosen.resolve_left tray
    simp only [BinEntry.accepts, Bool.and_eq_true, decide_eq_true_eq] at room
    dsimp only
    omega
  · have room := chosen.resolve_left tray
    have here : e.state = .available := by
      simp only [BinEntry.accepts, Bool.and_eq_true, beq_iff_eq] at room
      exact room.1
    rw [here] at away
    cases away

/-! ### A bin that may become FULL -/

/-- An entry that becomes FULL where it is AVAILABLE with its count at the capacity (R129, R133). -/
def judgedFull (e : BinEntry) : BinEntry := if e.state = .available ∧ e.capacity ≤ e.count then { e with state := .full } else e

theorem enterFull_bin (s : State) (b c : Bin) :
    (s.enterFull b).bin c = if c = b then { s.bin b with state := .full } else s.bin c := by
  have raised := raise_only (s.setBin b { s.bin b with state := .full }) .super .trayFull
  rw [← setBin_bin]
  unfold State.enterFull
  dsimp only
  split
  · exact (raised.trans (raise_only _ .feed .trayFullEnd)).bin_eq c
  · exact raised.bin_eq c

/-- Every sound entry but for AVAILABLE, once it is judged. -/
theorem entrySound_judgedFull {b : Bin} {e : BinEntry} {behind : Prop} (capacity : 50 ≤ e.capacity ∧ e.capacity ≤ 4000)
    (fits : b ≠ .endTray → e.count + e.bound ≤ e.capacity) (full : e.state = .full → e.capacity ≤ e.count)
    (swapping : e.state = .swapping ↔ behind) (withheld : b ≠ .endTray → e.state = .withheld → e.bound = 0) :
    EntrySound b (judgedFull e) behind := by
  unfold judgedFull
  split
  next reached =>
    obtain ⟨state, reached⟩ := reached
    refine ⟨capacity, fits, by simp, fun _ => reached, ?_, by simp⟩
    simpa [state] using swapping
  next below => exact ⟨capacity, fits, fun state => not_le.mp fun reached => below ⟨state, reached⟩, full, swapping, withheld⟩

/-- The entry of a bin an arrival counts in (R129). -/
def arrivedEntry (e : BinEntry) : BinEntry := judgedFull { e with bound := e.bound - 1, count := min (e.count + 1) 65535 }

theorem countArrival_bin (s : State) (b c : Bin) (t : Tag) :
    (s.countArrival b t).bin c = if c = b then arrivedEntry (s.bin b) else s.bin c := by
  let e : BinEntry := { s.bin b with bound := (s.bin b).bound - 1, count := min ((s.bin b).count + 1) 65535 }
  have counted (d : Bin) : ((((s.setBin b e).bump (.arrivals b)).bump .exited).holdGate b t).bin d =
      if d = b then e else s.bin d := by
    rw [← setBin_bin]
    exact (((bump_only _ _).trans (bump_only _ _)).trans (holdGate_only _ b t)).bin_eq d
  have own := (counted b).trans (if_pos rfl)
  unfold State.countArrival
  dsimp only
  change State.bin (if (State.bin ((((s.setBin b e).bump (.arrivals b)).bump .exited).holdGate b t) b).state = _ ∧ _ then _
    else _) c = _
  rw [own]
  change _ = if c = b then judgedFull e else s.bin c
  unfold judgedFull
  split
  · rw [enterFull_bin, own, counted]
    split <;> rfl
  · exact counted c

theorem entrySound_arrived {b : Bin} {e : BinEntry} {behind : Prop} (sound : EntrySound b e behind) (bound : 0 < e.bound) :
    EntrySound b (arrivedEntry e) behind := by
  obtain ⟨capacity, fits, -, full, swapping, withheld⟩ := sound
  refine entrySound_judgedFull capacity (fun tray => ?_) (fun state => ?_) swapping fun tray away => ?_
  · have before := fits tray
    dsimp only
    omega
  · have before := full state
    dsimp only at *
    omega
  · have none := withheld tray away
    omega

/-! ### Capacities, swaps -/

/-- The entry of a bin that takes a capacity (R133). -/
def capacityEntry (e : BinEntry) (v : Nat) : BinEntry :=
  if e.state = .available ∧ v ≤ e.count then { e with capacity := v, state := .full }
  else if e.state = .full ∧ e.count < v then { e with capacity := v, state := .available }
  else { e with capacity := v }

theorem setCapacity_bin (s : State) (b c : Bin) (v : Nat) :
    (s.setCapacity b v).bin c = if c = b then capacityEntry (s.bin b) v else s.bin c := by
  unfold State.setCapacity capacityEntry
  dsimp only
  split
  · rw [enterFull_bin, setBin_bin_self, setBin_bin]
    split <;> rfl
  · split
    · rw [setBin_bin, setBin_bin]
      split <;> rfl
    · rw [setBin_bin]

theorem clampCapacity_range {b : Bin} {e : BinEntry} {behind : Prop} (sound : EntrySound b e behind) (v : Nat) :
    (50 ≤ clampCapacity b e v ∧ clampCapacity b e v ≤ 4000) ∧ (b ≠ .endTray → e.count + e.bound ≤ clampCapacity b e v) := by
  have within := clamp_within (lo := 50) (hi := 4000) (by decide) v
  have range := sound.capacity
  cases b with
  | endTray =>
    unfold clampCapacity
    refine ⟨⟨?_, ?_⟩, fun tray => absurd rfl tray⟩ <;> dsimp only <;> omega
  | tray k =>
    have fits := sound.fits (by simp)
    unfold clampCapacity
    refine ⟨⟨?_, ?_⟩, fun _ => ?_⟩ <;> dsimp only <;> omega

theorem entrySound_capacity {b : Bin} {e : BinEntry} {behind : Prop} (sound : EntrySound b e behind) {v : Nat}
    (range : 50 ≤ v ∧ v ≤ 4000) (room : b ≠ .endTray → e.count + e.bound ≤ v) : EntrySound b (capacityEntry e v) behind := by
  obtain ⟨-, -, -, -, swapping, withheld⟩ := sound
  unfold capacityEntry
  split
  next reached => exact ⟨range, room, by simp, fun _ => reached.2, by simpa [reached.1] using swapping, by simp⟩
  next below =>
    split
    next short => exact ⟨range, room, fun _ => short.2, by simp, by simpa [short.1] using swapping, by simp⟩
    next enough =>
      exact ⟨range, room, fun state => not_le.mp fun reached => below ⟨state, reached⟩,
        fun state => not_lt.mp fun short => enough ⟨state, short⟩, swapping, withheld⟩

/-- The entry of a bin whose swap ABORT ends (R131). -/
def abortedEntry (e : BinEntry) : BinEntry := { e with state := if e.count < e.capacity then .available else .full }

theorem endSwap_bin (s : State) (b c : Bin) :
    (s.endSwap b).bin c = if c = b then abortedEntry (s.bin b) else s.bin c := by
  unfold State.endSwap abortedEntry
  split
  · rw [setBin_bin]
  · rw [enterFull_bin]

theorem entrySound_aborted {b : Bin} {e : BinEntry} {behind after : Prop} (sound : EntrySound b e behind) (free : ¬ after) :
    EntrySound b (abortedEntry e) after := by
  obtain ⟨capacity, fits, -, -, -, -⟩ := sound
  unfold abortedEntry
  split
  next short => exact ⟨capacity, fits, fun _ => short, by simp, by simp [free], by simp⟩
  next reached => exact ⟨capacity, fits, by simp, fun _ => not_lt.mp reached, by simp [free], by simp⟩

theorem entrySound_withheld {b : Bin} {e : BinEntry} {behind after : Prop} (sound : EntrySound b e behind)
    (unbound : e.bound = 0) (free : ¬ after) : EntrySound b { e with state := .withheld } after := by
  obtain ⟨capacity, fits, -, -, -, -⟩ := sound
  exact ⟨capacity, fits, by simp, by simp, by simp [free], fun _ _ => unbound⟩

theorem entrySound_swapping {b : Bin} {e : BinEntry} {behind after : Prop} (sound : EntrySound b e behind) (swap : after) :
    EntrySound b { e with state := .swapping } after := by
  obtain ⟨capacity, fits, -, -, -, -⟩ := sound
  exact ⟨capacity, fits, by simp, by simp, by simp [swap], by simp⟩

theorem entrySound_ready {b : Bin} {e : BinEntry} {behind : Prop} (sound : EntrySound b e behind) (away : e.state = .withheld) :
    EntrySound b { e with state := .available, count := 0 } behind := by
  obtain ⟨capacity, fits, -, -, swapping, withheld⟩ := sound
  refine ⟨capacity, fun tray => ?_, fun _ => ?_, by simp, by simpa [away] using swapping, by simp⟩
  · have none := withheld tray away
    dsimp only
    omega
  · dsimp only
    omega

/-! ### Binding (R125) -/

theorem chooseBin_accepts (s : State) (p a : Bin) : s.chooseBin p a = .endTray ∨ (s.bin (s.chooseBin p a)).accepts = true := by
  unfold State.chooseBin
  split
  · exact .inl rfl
  · split
    next accepts => exact .inr accepts
    next =>
      split
      · exact .inl rfl
      · split
        next accepts => exact .inr accepts
        next => exact .inl rfl

theorem bind_bin (s : State) (t : Tag) (a : Pos) (lp : Option Nat) (e : SortEntry) (c : Bin) :
    (s.bind t a lp e).bin c = if c = s.chooseBin e.primary e.alternate then
        { s.bin c with bound := (s.bin c).bound + 1 }
      else s.bin c := by
  have bound (v : BinEntry) (b : Bin) := (updRec_only (s.setBin b v) [.track, .routes] t (fun r => { r with bin := some b })).trans
    (addGateWindow_only _ b t a lp)
  unfold State.bind
  dsimp only
  rw [(bound _ _).bin_eq c, setBin_bin]
  split
  next named => rw [named]
  next => rfl

/-! ### Routes -/

theorem routesOf_updTrack {t : Tag} {f : Record → Record} (g : Route → Route)
    (effect : ∀ r, ((f r).tag, (f r).next, (f r).bin) = g (r.tag, r.next, r.bin)) (l : List Record) :
    routesOf (updTrack t f l) = (routesOf l).map fun q => if q.1 = t then g q else q := by
  rw [updTrack_eq_map, routesOf, routesOf, List.map_map, List.map_map]
  refine List.map_congr_left fun r _ => ?_
  simp only [Function.comp_apply]
  split
  · exact effect r
  · rfl

theorem Only.routes_eq {fs : List Part} {s t : State} (only : Only fs s t) (absent : .routes ∉ fs := by simp) :
    routesOf t.track = routesOf s.track := only .routes absent

theorem bind_routes (s : State) (t : Tag) (a : Pos) (lp : Option Nat) (e : SortEntry) :
    routesOf (s.bind t a lp e).track =
      (routesOf s.track).map fun q => if q.1 = t then (q.1, q.2.1, some (s.chooseBin e.primary e.alternate)) else q := by
  unfold State.bind
  dsimp only
  rw [(addGateWindow_only _ _ t a lp).routes_eq]
  exact routesOf_updTrack (fun q => (q.1, q.2.1, some _)) (fun _ => rfl) s.track

/-- What a plan binds its record to: the bin's bound rises, and the bin accepts unless it is the end tray (R89, R125). -/
theorem plan_binds {s : State} {t : Tag} {r : Record} (v : Verdict) (found : s.findRec t = some r) :
    ∃ b, (b = .endTray ∨ (s.bin b).accepts = true) ∧
      (∀ c, (s.plan t v).bin c = if c = b then { s.bin b with bound := (s.bin b).bound + 1 } else s.bin c) ∧
      routesOf (s.plan t v).track = (routesOf s.track).map fun q => if q.1 = t then (q.1, q.2.1, some b) else q := by
  unfold State.plan
  rw [found]
  dsimp only
  generalize planGate _ _ _ _ = g
  generalize classify _ _ _ = k
  have before := (planFacing_only s t k g.1 g.2).trans (planMark_only (s.planFacing t k g.1 g.2) t r.anchor k g.1 g.2
    ((s.planFacing t k g.1 g.2).sortEntry (routeClass k.cls g.2)) (r.lp.getD 0))
  generalize State.planMark _ _ _ _ _ _ _ _ = u at before ⊢
  generalize State.sortEntry _ _ = e
  have entries (c : Bin) : u.bin c = s.bin c := before.bin_eq c
  have after := (updRec_only (u.bind t r.anchor (if v = .overlength then none else r.lp) e) [.track, .stages] t
    fun q => { q with stage := .planned }).trans (driveGate_only _ g.1)
  refine ⟨u.chooseBin e.primary e.alternate, ?_, fun c => ?_, ?_⟩
  · rw [← entries]
    exact chooseBin_accepts u _ _
  · rw [after.bin_eq c, bind_bin, entries]
    split
    next named => rw [named]
    next => rfl
  · rw [after.routes_eq, bind_routes, before.routes_eq]

end Sys2Proof.Proofs
end

section
/-! PROOFS. The bin table and the track agree (R5, R124, R125, R129, R130, R133): what every step keeps of them. -/

-- The proofs are elaborated one after another: the check gives each thread a large stack within a fixed memory.
set_option Elab.async false

namespace Sys2Proof.Proofs

open Sys2Proof.Machine
open Sys2Proof.Claims

/-! ### Lists of routes -/

theorem cellOf_eq_binCell (b : Bin) : cellOf b = binCell b := by cases b <;> rfl

theorem binCell_injective : Function.Injective binCell := by
  intro b c same
  cases b <;> cases c <;> simp_all [binCell]

theorem binCell_ne {b : Bin} {x : Cell} (noBin : cellBin x = none) : binCell b ≠ x := by
  cases b <;> cases x <;> simp_all [binCell, cellBin]

theorem routesOf_tags (l : List Record) : (routesOf l).map (fun q => q.1) = tagsOf l := List.map_map

theorem mem_routesOf {l : List Record} {r : Record} (mem : r ∈ l) : (r.tag, r.next, r.bin) ∈ routesOf l :=
  List.mem_map_of_mem mem

/-- A tag has one route. -/
theorem route_unique {l : List Route} (distinct : (l.map fun q => q.1).Nodup) {p q : Route} (hp : p ∈ l) (hq : q ∈ l)
    (same : p.1 = q.1) : p = q := List.inj_on_of_nodup_map distinct hp hq same

/-- A count splits into that of the other tags and that of one. -/
theorem countP_of_tag {l : List Route} (distinct : (l.map fun q => q.1).Nodup) {q : Route} (mem : q ∈ l)
    (p : Route → Bool) : l.countP p = (l.filter fun r => r.1 != q.1).countP p + if p q then 1 else 0 := by
  induction l with
  | nil => exact absurd mem (List.not_mem_nil)
  | cons r l ih =>
    obtain ⟨fresh, rest⟩ := List.nodup_cons.mp distinct
    rcases List.mem_cons.mp mem with rfl | later
    · have others : l.filter (fun r => r.1 != q.1) = l := by
        refine List.filter_eq_self.mpr fun r known => ?_
        have apart : r.1 ≠ q.1 := fun same => fresh (List.mem_map.mpr ⟨r, known, same⟩)
        simpa using apart
      rw [List.filter_cons_of_neg (by simp), others, List.countP_cons]
    · have apart : r.1 ≠ q.1 := fun same => fresh (List.mem_map.mpr ⟨q, later, same.symm⟩)
      rw [List.filter_cons_of_pos (by simpa using apart), List.countP_cons, List.countP_cons, ih rest later]
      omega

/-- The route of a tag rewritten. -/
def rerouted (t : Tag) (g : Route → Route) (l : List Route) : List Route := l.map fun q => if q.1 = t then g q else q

theorem rerouted_tags (t : Tag) {g : Route → Route} (kept : ∀ q, (g q).1 = q.1) (l : List Route) :
    (rerouted t g l).map (fun q => q.1) = l.map fun q => q.1 := by
  rw [rerouted, List.map_map]
  refine List.map_congr_left fun q _ => ?_
  simp only [Function.comp_apply]
  split
  · exact kept q
  · rfl

theorem rerouted_filter (t : Tag) {g : Route → Route} (kept : ∀ q, (g q).1 = q.1) (l : List Route) :
    (rerouted t g l).filter (fun r => r.1 != t) = l.filter fun r => r.1 != t := by
  induction l with
  | nil => rfl
  | cons q l ih =>
    simp only [rerouted, List.map_cons] at ih ⊢
    by_cases named : q.1 = t
    · rw [if_pos named, List.filter_cons_of_neg (by simp [kept, named]), List.filter_cons_of_neg (by simp [named]), ih]
    · rw [if_neg named, List.filter_cons_of_pos (by simpa using named), List.filter_cons_of_pos (by simpa using named), ih]

theorem mem_rerouted {t : Tag} {g : Route → Route} {l : List Route} {q : Route} (mem : q ∈ rerouted t g l) :
    (q ∈ l ∧ q.1 ≠ t) ∨ ∃ r ∈ l, r.1 = t ∧ q = g r := by
  obtain ⟨r, known, rfl⟩ := List.mem_map.mp mem
  by_cases named : r.1 = t
  · exact .inr ⟨r, known, named, if_pos named⟩
  · rw [if_neg named]
    exact .inl ⟨known, named⟩

theorem mem_rerouted_of_mem {t : Tag} {l : List Route} {q : Route} (g : Route → Route) (mem : q ∈ l) :
    (if q.1 = t then g q else q) ∈ rerouted t g l := List.mem_map.mpr ⟨q, mem, rfl⟩

/-! ### The track's side -/

/-- The number of records that name a bin. -/
def namedIn (b : Bin) (l : List Route) : Nat := l.countP fun q => decide (q.2.2 = some b)

/-- The track's side of the agreement. -/
structure RoutesSound (s : State) : Prop where
  bound    : ∀ b, (s.bin b).bound = namedIn b (routesOf s.track)
  expected : ∀ q ∈ routesOf s.track, ∀ b, q.2.1 = some (binCell b) → q.2.2 = some b
  unread   : ∀ q ∈ routesOf s.track, q.2.1 = some .r → q.2.2 = none
  sampled  : ∀ d ch, s.read = .sampling d ch → ∃ q ∈ routesOf s.track, q.1 = d.tag ∧ q.2.2 = none ∧ q.2.1 ≠ some .r
  jammed   : s.line = .jammed → s.read = .idle

theorem binsSound_iff (s : State) :
    BinsSound s ↔ TrackSound s ∧ FlightsListed s ∧ RoutesSound s ∧ TableSound s := by
  have named (b : Bin) : (s.track.countP fun r => decide (r.bin = some b)) = namedIn b (routesOf s.track) := by
    rw [namedIn, routesOf, List.countP_map]
    rfl
  constructor
  · intro sound
    refine ⟨sound.track, sound.listed, ⟨fun b => (sound.bound b).trans (named b), ?_, ?_, ?_, sound.jammed⟩, fun b => ?_⟩
    · intro q mem b
      obtain ⟨r, known, rfl⟩ := List.mem_map.mp mem
      rw [← cellOf_eq_binCell]
      exact sound.expected r known b
    · intro q mem
      obtain ⟨r, known, rfl⟩ := List.mem_map.mp mem
      exact sound.unread r known
    · intro d ch read
      obtain ⟨r, known, tag, bin, next⟩ := sound.sampled d ch read
      exact ⟨_, mem_routesOf known, tag, bin, next⟩
    · refine ⟨sound.capacity b, ?_, sound.available b, sound.full b, sound.swapping b, ?_⟩
      · cases b with
        | endTray => exact fun tray => absurd rfl tray
        | tray k => exact fun _ => sound.fits k
      · cases b with
        | endTray => exact fun tray => absurd rfl tray
        | tray k => exact fun _ => sound.withheld k
  · rintro ⟨track, listed, routes, table⟩
    refine ⟨track, listed, fun b => (routes.bound b).trans (named b).symm, fun r known b next => ?_, fun r known next => ?_,
      fun d ch read => ?_, routes.jammed, fun b => (table b).capacity, fun k => (table _).fits (by simp),
      fun b => (table b).available, fun b => (table b).full, fun b => (table b).swapping,
      fun k => (table _).withheld (by simp)⟩
    · rw [cellOf_eq_binCell] at next
      exact routes.expected _ (mem_routesOf known) b next
    · exact routes.unread _ (mem_routesOf known) next
    · obtain ⟨q, mem, tag, bin, next⟩ := routes.sampled d ch read
      obtain ⟨r, known, rfl⟩ := List.mem_map.mp mem
      exact ⟨r, known, tag, bin, next⟩

/-- Routes and bounds stand, and a read that is SAMPLING was. -/
theorem RoutesSound.keep {s t : State} (sound : RoutesSound s) (routes : routesOf t.track = routesOf s.track)
    (bound : ∀ b, (t.bin b).bound = (s.bin b).bound)
    (read : ∀ d ch, t.read = .sampling d ch → ∃ c dh, s.read = .sampling c dh ∧ c.tag = d.tag)
    (jammed : t.line = .jammed → t.read = .idle) : RoutesSound t := by
  refine ⟨fun b => ?_, ?_, ?_, fun d ch sampling => ?_, jammed⟩
  · rw [bound, routes]
    exact sound.bound b
  · rw [routes]
    exact sound.expected
  · rw [routes]
    exact sound.unread
  · obtain ⟨c, dh, before, same⟩ := read d ch sampling
    rw [routes, ← same]
    exact sound.sampled c dh before

/-- Routes, read and line untouched, and the bounds. -/
theorem RoutesSound.of_bins {fs : List Part} {s t : State} (sound : RoutesSound s) (only : Only fs s t)
    (bound : ∀ b, (t.bin b).bound = (s.bin b).bound) (routes : .routes ∉ fs := by simp) (read : .read ∉ fs := by simp)
    (line : .line ∉ fs := by simp) : RoutesSound t := by
  have same := only.read_eq read
  refine sound.keep (only.routes_eq routes) bound (fun d ch sampling => ⟨d, ch, same.symm.trans sampling, rfl⟩) fun jam => ?_
  exact same.trans (sound.jammed ((only.line_eq line).symm.trans jam))

theorem RoutesSound.of_only {fs : List Part} {s t : State} (sound : RoutesSound s) (only : Only fs s t)
    (routes : .routes ∉ fs := by simp) (read : .read ∉ fs := by simp) (line : .line ∉ fs := by simp)
    (bins : .bins ∉ fs := by simp) : RoutesSound t :=
  sound.of_bins only (fun b => congrArg BinEntry.bound (only.bin_eq b bins)) routes read line

/-- Routes, read and bounds untouched; the line is not, or comes not to be, JAMMED. -/
theorem RoutesSound.of_line {fs : List Part} {s t : State} (sound : RoutesSound s) (only : Only fs s t)
    (line : t.line = .jammed → s.line = .jammed) (routes : .routes ∉ fs := by simp) (read : .read ∉ fs := by simp)
    (bins : .bins ∉ fs := by simp) : RoutesSound t := by
  have same := only.read_eq read
  exact sound.keep (only.routes_eq routes) (fun b => congrArg BinEntry.bound (only.bin_eq b bins))
    (fun d ch sampling => ⟨d, ch, same.symm.trans sampling, rfl⟩) fun jam => same.trans (sound.jammed (line jam))

theorem routesSound_of_empty {s : State} (track : s.track = []) (bound : ∀ b, (s.bin b).bound = 0) (read : s.read = .idle) :
    RoutesSound s := by
  refine ⟨fun b => ?_, ?_, ?_, fun d ch sampling => ?_, fun _ => read⟩
  · rw [bound, track]
    rfl
  · simp [track, routesOf]
  · simp [track, routesOf]
  · rw [read] at sampling
    cases sampling

/-! ### Reads -/

theorem useSamples_sampling {s : State} {l : LineState} {z : Samples} {d : Reading} {ch : Vector Channel 8}
    (sampling : (s.useSamples l z).read = .sampling d ch) : ∃ c dh, s.read = .sampling c dh ∧ c.tag = d.tag := by
  unfold State.useSamples at sampling
  split at sampling
  · split at sampling
    · exact ⟨d, ch, (train_only s z).read_eq.symm.trans sampling, rfl⟩
    · exact ⟨d, ch, sampling, rfl⟩
  · split at sampling
    · split at sampling
      next c dh read =>
        unfold State.readSample at sampling
        dsimp only at sampling
        split at sampling
        · cases sampling
          exact ⟨c, _, read, rfl⟩
        · cases sampling
          exact ⟨c, _, read, rfl⟩
      next => cases sampling
      next read => exact ⟨d, ch, sampling, rfl⟩
    · exact ⟨d, ch, sampling, rfl⟩

theorem findRec_of_tag {s : State} {t : Tag} (mem : t ∈ tagsOf s.track) : ∃ r, s.findRec t = some r := by
  obtain ⟨r, known, rfl⟩ := List.mem_map.mp mem
  exact Option.isSome_iff_exists.mp (List.find?_isSome.mpr ⟨r, known, by simp⟩)

/-- What a read that ends does to the bin table and the routes: its record is bound (R67, R68, R125). -/
structure Binds (s t : State) (tag : Tag) (b : Bin) : Prop where
  accepts : b = .endTray ∨ (s.bin b).accepts = true
  bins    : ∀ c, t.bin c = if c = b then { s.bin b with bound := (s.bin b).bound + 1 } else s.bin c
  routes  : routesOf t.track = rerouted tag (fun q => (q.1, q.2.1, some b)) (routesOf s.track)

theorem plan_of_only {fs : List Part} {s u : State} {t : Tag} (v : Verdict) (only : Only fs s u) (mem : t ∈ tagsOf s.track)
    (bins : .bins ∉ fs := by simp) (routes : .routes ∉ fs := by simp) (tags : .tags ∉ fs := by simp) :
    ∃ b, Binds s (u.plan t v) t b := by
  rw [← only.tags_eq tags] at mem
  obtain ⟨r, found⟩ := findRec_of_tag mem
  obtain ⟨b, accepts, entries, planned⟩ := plan_binds v found
  refine ⟨b, ?_, fun c => ?_, ?_⟩
  · rwa [only.bin_eq b bins] at accepts
  · rw [entries, only.bin_eq b bins, only.bin_eq c bins]
  · rw [planned, only.routes_eq routes]
    rfl

theorem abandonRead_binds {s : State} {d : Reading} (ch : Vector Channel 8) (mem : d.tag ∈ tagsOf s.track) :
    ∃ b, Binds s (s.abandonRead d ch) d.tag b :=
  plan_of_only _ ((writeFindings_only s _ _).trans (setRead_only _ _)) mem

theorem completeRead_binds {s : State} {d : Reading} (ch : Vector Channel 8) (mem : d.tag ∈ tagsOf s.track) :
    ∃ b, Binds s (s.completeRead d ch) d.tag b :=
  plan_of_only _ (((updRec_only s [.track] d.tag fun q => { q with lp := some d.count }).trans
    (writeFindings_only _ _ _)).trans (setRead_only _ _)) mem

theorem abandonRead_read (s : State) (d : Reading) (ch : Vector Channel 8) : (s.abandonRead d ch).read = .overrun d :=
  (plan_only _ _ _).read_eq

theorem completeRead_read (s : State) (d : Reading) (ch : Vector Channel 8) : (s.completeRead d ch).read = .idle :=
  (plan_only _ _ _).read_eq

theorem completeOverrun_read (s : State) (d : Reading) : (s.completeOverrun d).read = .idle :=
  (closeWindows_only _ _ _).read_eq

theorem RoutesSound.sampled_tag {s : State} (sound : RoutesSound s) {d : Reading} {ch : Vector Channel 8}
    (read : s.read = .sampling d ch) : d.tag ∈ tagsOf s.track := by
  obtain ⟨q, mem, tag, -⟩ := sound.sampled d ch read
  rw [← routesOf_tags, ← tag]
  exact List.mem_map_of_mem mem

theorem routesSound_of_binds {s t : State} {d : Reading} {ch : Vector Channel 8} {b : Bin} (sound : RoutesSound s)
    (distinct : (tagsOf s.track).Nodup) (read : s.read = .sampling d ch) (binds : Binds s t d.tag b)
    (line : t.line = s.line) (ended : ∀ c dh, t.read ≠ .sampling c dh) : RoutesSound t := by
  obtain ⟨q, mem, tag, free, next⟩ := sound.sampled d ch read
  obtain ⟨-, bins, routes⟩ := binds
  rw [← routesOf_tags] at distinct
  have own {r : Route} (known : r ∈ routesOf s.track) (same : r.1 = d.tag) : r = q :=
    route_unique distinct known mem (same.trans tag.symm)
  have kept (r : Route) : (r.1, r.2.1, some b).1 = r.1 := rfl
  refine ⟨fun c => ?_, fun r known c leads => ?_, fun r known leads => ?_, fun c dh sampling => absurd sampling (ended c dh),
    fun jam => ?_⟩
  · have after : (if q.1 = d.tag then (q.1, q.2.1, some b) else q) ∈ routesOf t.track :=
      routes ▸ mem_rerouted_of_mem (fun q => (q.1, q.2.1, some b)) mem
    rw [if_pos tag] at after
    have apart : ((routesOf t.track).map fun q => q.1).Nodup := by
      rw [routes, rerouted_tags _ kept]
      exact distinct
    have before := countP_of_tag distinct mem (fun q => decide (q.2.2 = some c))
    have counted := countP_of_tag apart after (fun q => decide (q.2.2 = some c))
    simp only [routes, tag] at counted before
    rw [rerouted_filter _ kept, ← routes] at counted
    have bound := sound.bound c
    unfold namedIn at *
    rw [bins c]
    by_cases named : c = b
    · subst named
      rw [if_pos rfl]
      simp only [free, decide_true, if_true, reduceCtorEq, decide_false, Bool.false_eq_true, if_false] at counted before
      dsimp only
      omega
    · rw [if_neg named]
      simp only [free, reduceCtorEq, decide_false, Bool.false_eq_true, if_false, Option.some.injEq, Ne.symm named] at counted before
      omega
  · rw [routes] at known
    rcases mem_rerouted known with ⟨old, -⟩ | ⟨p, old, same, rfl⟩
    · exact sound.expected r old c leads
    · obtain rfl := own old same
      have bin := sound.expected p mem c leads
      rw [free] at bin
      cases bin
  · rw [routes] at known
    rcases mem_rerouted known with ⟨old, -⟩ | ⟨p, old, same, rfl⟩
    · exact sound.unread r old leads
    · obtain rfl := own old same
      exact absurd leads next
  · have idle := sound.jammed (line.symm.trans jam)
    rw [read] at idle
    cases idle

/-! ### Arrivals, passes, jams -/

theorem arrival_bin (s : State) (r : Record) (b c : Bin) :
    (s.arrival r b).bin c = if c = b then arrivedEntry (s.bin b) else s.bin c := by
  have left := leaveRead_only s r.tag
  have rest := (departMark_only ((s.leaveRead r.tag).countArrival b r.tag) r).trans (removeRec_only _ r.tag)
  rw [← left.bin_eq b, ← left.bin_eq c, ← countArrival_bin]
  exact rest.bin_eq c

theorem routesOf_filter (l : List Record) (t : Tag) :
    routesOf (l.filter fun r => r.tag != t) = (routesOf l).filter fun q => q.1 != t := by
  unfold routesOf
  rw [List.filter_map]
  rfl

theorem arrival_routes (s : State) (r : Record) (b : Bin) :
    routesOf (s.arrival r b).track = (routesOf s.track).filter fun q => q.1 != r.tag := by
  obtain ⟨u, eq, only⟩ := arrival_parts s r b
  rw [eq, removeRec_track, routesOf_filter, only.routes_eq]

theorem leaveRead_read (s : State) (t : Tag) :
    (s.leaveRead t).read = s.read ∧ (∀ d ch, s.read = .sampling d ch → d.tag ≠ t) ∨ (s.leaveRead t).read = .idle := by
  unfold State.leaveRead
  split
  next d ch read =>
    split
    · exact .inr rfl
    next other => exact .inl ⟨rfl, fun c dh same => by rw [read] at same; cases same; exact other⟩
  next d read =>
    split
    · exact .inr (closeWindows_only _ _ _).read_eq
    · exact .inl ⟨rfl, fun c dh same => by rw [read] at same; cases same⟩
  next read => exact .inr read

theorem arrival_read (s : State) (r : Record) (b : Bin) : (s.arrival r b).read = (s.leaveRead r.tag).read :=
  (((countArrival_only _ b r.tag).trans (departMark_only _ r)).trans (removeRec_only _ r.tag)).read_eq

theorem arrival_routesSound {s : State} {r : Record} {b : Bin} (sound : RoutesSound s) (distinct : (tagsOf s.track).Nodup)
    (mem : r ∈ s.track) (next : r.next = some (binCell b)) : RoutesSound (s.arrival r b) := by
  have route := mem_routesOf mem
  have bin : r.bin = some b := sound.expected _ route b next
  rw [← routesOf_tags] at distinct
  have left := arrival_read s r b
  refine ⟨fun c => ?_, fun q known => ?_, fun q known => ?_, fun d ch sampling => ?_, fun jam => ?_⟩
  · have before : namedIn c (routesOf s.track) = namedIn c ((routesOf s.track).filter fun q => q.1 != r.tag) +
        if decide (r.bin = some c) then 1 else 0 := countP_of_tag distinct route _
    have bound := sound.bound c
    rw [arrival_bin, arrival_routes]
    by_cases named : c = b
    · subst named
      rw [if_pos rfl]
      simp only [bin, decide_true, if_true] at before
      have less : (arrivedEntry (s.bin c)).bound = (s.bin c).bound - 1 := by
        unfold arrivedEntry judgedFull
        split <;> rfl
      omega
    · rw [if_neg named]
      simp only [bin, Option.some.injEq, Ne.symm named, decide_false, Bool.false_eq_true, if_false] at before
      omega
  · rw [arrival_routes] at known
    exact sound.expected q (List.mem_of_mem_filter known)
  · rw [arrival_routes] at known
    exact sound.unread q (List.mem_of_mem_filter known)
  · rw [left] at sampling
    rcases leaveRead_read s r.tag with ⟨same, other⟩ | idle
    · have before := same.symm.trans sampling
      obtain ⟨q, known, tag, free, leads⟩ := sound.sampled d ch before
      refine ⟨q, ?_, tag, free, leads⟩
      rw [arrival_routes]
      refine List.mem_filter.mpr ⟨known, ?_⟩
      rw [tag]
      simpa using other d ch before
    · rw [idle] at sampling
      cases sampling
  · rw [left]
    rcases leaveRead_read s r.tag with ⟨same, -⟩ | idle
    · exact same.trans (sound.jammed ((arrival_only s r b).line_eq.symm.trans jam))
    · exact idle

theorem matched_pass_routes {s : State} {x : Cell} (r : Record) (noBin : cellBin x = none) :
    routesOf (s.matched x r).track =
      rerouted r.tag (fun q => (q.1, nextCheckpoint x r, q.2.2)) (routesOf s.track) := by
  have moved : routesOf ((s.reAnchor r (cellPosition s.params.geo x)).updRec r.tag
      fun q => { q with next := nextCheckpoint x r }).track =
        rerouted r.tag (fun q => (q.1, nextCheckpoint x r, q.2.2)) (routesOf s.track) := by
    rw [← (reAnchor_only s r (cellPosition s.params.geo x)).routes_eq]
    exact routesOf_updTrack (fun q => (q.1, nextCheckpoint x r, q.2.2)) (fun _ => rfl) _
  unfold State.matched
  rw [noBin]
  dsimp only
  split
  · rw [(startRead_only _ r.tag).routes_eq, moved]
  · exact moved

theorem matched_pass_read {s : State} {x : Cell} (r : Record) (noBin : cellBin x = none) :
    (x = .r ∧ ∃ d, d.tag = r.tag ∧ (s.matched x r).read = .sampling d (Vector.replicate 8 freshChannel)) ∨
      x ≠ .r ∧ (s.matched x r).read = s.read := by
  have moved := (reAnchor_only s r (cellPosition s.params.geo x)).trans
    (updRec_only _ [.track, .routes, .stages] r.tag fun q => { q with next := nextCheckpoint x r })
  unfold State.matched
  rw [noBin]
  dsimp only
  split
  next named => exact .inl ⟨named, ⟨r.tag, _, _⟩, rfl, rfl⟩
  next other => exact .inr ⟨other, moved.read_eq⟩

/-- The checkpoint after a match is no bin cell but the record's own bin's, and never R (R5). -/
theorem nextCheckpoint_binCell {x : Cell} {r : Record} {b : Bin} (leads : nextCheckpoint x r = some (binCell b)) :
    r.bin = some b := by
  cases x with
  | c =>
    obtain ⟨c, bin, same⟩ := Option.map_eq_some_iff.mp leads
    rw [bin, binCell_injective same]
  | r => exact absurd (Option.some.inj leads).symm (binCell_ne rfl)
  | t => exact absurd (Option.some.inj leads).symm (binCell_ne rfl)
  | _ => cases leads

theorem nextCheckpoint_ne_r (x : Cell) (r : Record) : nextCheckpoint x r ≠ some .r := by
  intro leads
  cases x with
  | c =>
    obtain ⟨c, -, same⟩ := Option.map_eq_some_iff.mp leads
    exact binCell_ne rfl same
  | _ => cases leads

theorem pass_routesSound {s : State} {x : Cell} {r : Record} (sound : RoutesSound s) (distinct : (tagsOf s.track).Nodup)
    (mem : r ∈ s.track) (next : r.next = some x) (noBin : cellBin x = none) (moving : Moving s) :
    RoutesSound (s.matched x r) := by
  have routes := matched_pass_routes (s := s) r noBin
  have route := mem_routesOf mem
  rw [← routesOf_tags] at distinct
  have own {q : Route} (known : q ∈ routesOf s.track) (same : q.1 = r.tag) : q = (r.tag, r.next, r.bin) :=
    route_unique distinct known route same
  refine ⟨fun c => ?_, fun q known c leads => ?_, fun q known leads => ?_, fun d ch sampling => ?_, fun jam => ?_⟩
  · rw [(matched_pass_only s r noBin).bin_eq c, routes, sound.bound c, namedIn, namedIn, rerouted, List.countP_map]
    refine List.countP_congr fun q _ => ?_
    simp only [Function.comp_apply]
    split <;> rfl
  · rw [routes] at known
    rcases mem_rerouted known with ⟨old, -⟩ | ⟨p, old, same, rfl⟩
    · exact sound.expected q old c leads
    · rw [own old same]
      exact nextCheckpoint_binCell leads
  · rw [routes] at known
    rcases mem_rerouted known with ⟨old, -⟩ | ⟨p, old, same, rfl⟩
    · exact sound.unread q old leads
    · exact absurd leads (nextCheckpoint_ne_r x r)
  · rw [routes]
    rcases matched_pass_read (s := s) r noBin with ⟨rfl, d', tag, read⟩ | ⟨other, same⟩
    · rw [read] at sampling
      cases sampling
      have free := sound.unread _ route next
      have after := mem_rerouted_of_mem (t := r.tag) (fun q => (q.1, nextCheckpoint .r r, q.2.2)) route
      rw [if_pos rfl] at after
      exact ⟨_, after, tag.symm, free, nextCheckpoint_ne_r .r r⟩
    · obtain ⟨q, known, tag, free, leads⟩ := sound.sampled d ch (same.symm.trans sampling)
      refine ⟨_, mem_rerouted_of_mem (t := r.tag) _ known, ?_⟩
      split
      · exact ⟨tag, free, nextCheckpoint_ne_r x r⟩
      · exact ⟨tag, free, leads⟩
  · rw [(matched_pass_only s r noBin).line_eq] at jam
    exact absurd moving ((not_moving_iff s).mpr (.inr jam))

theorem jam_routes (s : State) (c : JamCause) (x : Cell) :
    routesOf (s.jam c x).track = (routesOf s.track).map fun q => (q.1, none, q.2.2) := by
  have before := ((((enterJam_only s c x).trans (jamRead_only _)).trans (jamHead_only _ .high)).trans (jamHead_only _ .low))
  rw [← before.routes_eq]
  refine (jamInduction_only _).routes_eq.trans ?_
  rw [routesOf, routesOf, List.map_map, List.map_map]
  rfl

theorem jam_routesSound {s : State} (c : JamCause) (x : Cell) (sound : RoutesSound s) : RoutesSound (s.jam c x) := by
  have idle := (jam_jamStands s c x).unread
  refine ⟨fun b => ?_, fun q known b leads => ?_, fun q known leads => ?_, fun d ch sampling => ?_, fun _ => idle⟩
  · rw [(jam_only s c x).bin_eq b, jam_routes, sound.bound b, namedIn, namedIn, List.countP_map]
    rfl
  · rw [jam_routes] at known
    obtain ⟨p, -, rfl⟩ := List.mem_map.mp known
    cases leads
  · rw [jam_routes] at known
    obtain ⟨p, -, rfl⟩ := List.mem_map.mp known
    cases leads
  · rw [idle] at sampling
    cases sampling

theorem createRecord_routes (s : State) :
    routesOf s.createRecord.track = routesOf s.track ++ [(s.nextTag, some .r, none)] := by
  rw [createRecord_track, routesOf, routesOf, List.map_append]
  rfl

theorem createRecord_routesSound {s : State} (sound : RoutesSound s) : RoutesSound s.createRecord := by
  have only := createRecord_only s
  have routes := createRecord_routes s
  refine ⟨fun b => ?_, fun q known b leads => ?_, fun q known leads => ?_, fun d ch sampling => ?_, fun jam => ?_⟩
  · rw [only.bin_eq b, routes, sound.bound b, namedIn, namedIn, List.countP_append]
    rfl
  · rw [routes, List.mem_append, List.mem_singleton] at known
    rcases known with old | rfl
    · exact sound.expected q old b leads
    · exact absurd (Option.some.inj leads).symm (binCell_ne rfl)
  · rw [routes, List.mem_append, List.mem_singleton] at known
    rcases known with old | rfl
    · exact sound.unread q old leads
    · rfl
  · obtain ⟨q, known, rest⟩ := sound.sampled d ch (only.read_eq.symm.trans sampling)
    exact ⟨q, routes ▸ List.mem_append_left _ known, rest⟩
  · exact only.read_eq.trans (sound.jammed (only.line_eq.symm.trans jam))

theorem emptyTrack_bin (s : State) (b : Bin) : s.emptyTrack.bin b = { s.bin b with bound := 0 } := by
  unfold State.emptyTrack
  rw [(afterRemoval_only _).bin_eq b]
  simp [State.bin, tabulate]

theorem purgeTrack_bin (s : State) (b : Bin) : s.purgeTrack.bin b = { s.bin b with bound := 0 } := by
  have before := (foldl_closeHeld_only s.track s).trans (bumpBy_only _ .purged s.track.length)
  unfold State.purgeTrack
  rw [emptyTrack_bin, State.closeAllHeld, before.bin_eq b]

theorem lineReset_bin (s : State) (cause : ResetCause) (b : Bin) : (s.lineReset cause).bin b = (s.bin b).lineReset := by
  simp [State.bin, State.lineReset, tabulate, State.addTally]

theorem writeParam_bin (s : State) (p : ParamId) (v : Nat) (c : Bin) :
    (s.writeParam p v).bin c = if p = .capacity c then capacityEntry (s.bin c) v else s.bin c := by
  cases p with
  | capacity b =>
    change (s.setCapacity b v).bin c = _
    rw [setCapacity_bin]
    by_cases named : c = b
    · subst named
      rw [if_pos rfl, if_pos rfl]
    · rw [if_neg named, if_neg (by simpa using Ne.symm named)]
  | _ => rw [if_neg (by simp)]; rfl

theorem capacityEntry_bound (e : BinEntry) (v : Nat) : (capacityEntry e v).bound = e.bound := by
  unfold capacityEntry
  split
  · rfl
  · split <;> rfl

theorem abortEffect_bin (k : Flight) (s : State) (c : Bin) :
    (abortEffect k s).bin c = if k = .swapTray c then abortedEntry (s.bin c) else s.bin c := by
  cases k with
  | swapTray b =>
    change (s.endSwap b).bin c = _
    rw [endSwap_bin]
    by_cases named : c = b
    · subst named
      rw [if_pos rfl, if_pos rfl]
    · rw [if_neg named, if_neg (by simpa using Ne.symm named)]
  | release =>
    rw [if_neg (by simp)]
    unfold abortEffect
    dsimp only
    split <;> rfl
  | _ => rw [if_neg (by simp)]; rfl

theorem finishSwap_bound (s : State) (c : Bin) : (s.finishSwap.bin c).bound = (s.bin c).bound := by
  rcases finishSwap_cases s with ⟨b, -, -, -, ended⟩ | same
  · rw [ended, (completeFlight_only _ .super .done).bin_eq c, setBin_bin]
    split
    next named => rw [named]
    next => rfl
  · rw [same]

theorem setBin_bound {s : State} {b : Bin} {e : BinEntry} (bound : e.bound = (s.bin b).bound) (c : Bin) :
    ((s.setBin b e).bin c).bound = (s.bin c).bound := by
  rw [setBin_bin]
  split
  next named => rw [named, bound]
  next => rfl

theorem act_keeps_routes (fs : List Part) (s t : State) (act : Act fs s t) (track : TrackSound s) (sound : RoutesSound s) :
    RoutesSound t := by
  have only := act.only
  cases act
  case powerOn =>
    refine routesSound_of_empty rfl (fun b => ?_) rfl
    exact (congrArg BinEntry.bound (reset_bin b)).trans rfl
  case lineReset cause => exact routesSound_of_empty rfl (fun b => by rw [lineReset_bin]; rfl) rfl
  case jam cause cell => exact jam_routesSound cause cell sound
  case wake =>
    unfold State.wake at only ⊢
    split
    next line =>
      rw [if_pos line] at only
      exact sound.of_line only (by simp)
    next => exact sound
  case finishDrain =>
    refine sound.of_line only ?_
    rcases finishDrain_cases s with ⟨-, ended⟩ | same
    · rw [ended, (endDrain_only _).line_eq]
      simp
    · rw [same]
      exact id
  case start | startFromStandby | drainAtOnce | standby | resume => exact sound.of_line only (by simp)
  case drain => exact sound.of_line only fun jam => nomatch jam
  case useSamples l z =>
    refine sound.keep only.routes_eq (fun b => congrArg BinEntry.bound (only.bin_eq b)) (fun d ch => useSamples_sampling)
      fun jam => useSamples_read l z (sound.jammed (only.line_eq.symm.trans jam))
  case abandonRead d ch read =>
    obtain ⟨b, binds⟩ := abandonRead_binds ch (sound.sampled_tag read)
    exact routesSound_of_binds sound track.distinct read binds only.line_eq (by simp [abandonRead_read])
  case completeRead d ch read =>
    obtain ⟨b, binds⟩ := completeRead_binds ch (sound.sampled_tag read)
    exact routesSound_of_binds sound track.distinct read binds only.line_eq (by simp [completeRead_read])
  case completeOverrun d read =>
    refine sound.keep only.routes_eq (fun b => congrArg BinEntry.bound (only.bin_eq b)) ?_
      fun _ => completeOverrun_read s d
    rw [completeOverrun_read]
    simp
  case createRecord => exact createRecord_routesSound sound
  case arrival r b next mem => exact arrival_routesSound sound track.distinct mem next
  case pass x r next noBin mem moving => exact pass_routesSound sound track.distinct mem next noBin moving
  case purge line =>
    refine routesSound_of_empty (purgeTrack_track s) (fun b => by rw [purgeTrack_bin]) ?_
    exact only.read_eq.trans (sound.jammed line)
  case finishSwap => exact sound.of_bins only (finishSwap_bound s)
  case abort x call k _ =>
    refine sound.of_bins only fun b => ?_
    rw [(complete_only _ x call .aborted).bin_eq b, abortEffect_bin]
    split <;> rfl
  case setParam p v _ =>
    refine sound.of_bins only fun b => ?_
    rw [writeParam_bin]
    split
    · exact capacityEntry_bound _ _
    · rfl
  case withhold b _ _ => exact sound.of_bins only (setBin_bound rfl)
  case trayReady b _ => exact sound.of_bins only (setBin_bound rfl)
  case swapTray call b _ _ =>
    refine sound.of_bins only fun c => ?_
    rw [(takeOff_only _ .super call _).bin_eq c]
    exact setBin_bound (s := s) (b := b) (e := { s.bin b with state := .swapping }) rfl c
  all_goals exact sound.of_only only

/-! ### The table's side -/

/-- With no SWAP TRAY in flight before, and none after, the table stands. -/
theorem TableSound.of_free {s t : State} (sound : TableSound s) (bins : t.bins = s.bins)
    (before : ∀ b, s.flight .super ≠ some (.swapTray b)) (after : ∀ b, t.flight .super ≠ some (.swapTray b)) :
    TableSound t :=
  sound.of_swap bins fun b => ⟨fun flight => absurd flight (after b), fun flight => absurd flight (before b)⟩

theorem flight_of_free {s : State} {x : PortId} (free : (s.port x).inFlight = none) : s.flight x = none := by
  rw [State.flight, free]
  rfl

theorem not_swapTray_of_isBlock {k : Flight} (block : IsBlock k) (b : Bin) : k ≠ .swapTray b := by
  rcases block with ⟨a, rfl⟩ | ⟨n, i, p, c, rfl⟩ | ⟨bs, rfl⟩ <;> simp

theorem sameFlight_isBlock_left {k l : Flight} (same : SameFlight k l) : IsBlock k := by
  rcases same with ⟨a, b, rfl, rfl⟩ | ⟨block, -⟩
  · exact .inl ⟨a, rfl⟩
  · exact .inr block

theorem lineReset_flight (s : State) (cause : ResetCause) (x : PortId) : (s.lineReset cause).flight x = none := by
  cases x <;> rfl

theorem act_keeps_table (fs : List Part) (s t : State) (act : Act fs s t) (listed : FlightsListed s)
    (routes : RoutesSound s) (sound : TableSound s) : TableSound t := by
  have only := act.only
  cases act
  case powerOn cells asserted =>
    intro b
    rw [show (s.powerOn cells asserted).bin b = _ from reset_bin b]
    refine entrySound_fresh ?_ (by rw [show (s.powerOn cells asserted).flight .super = none from rfl]; simp)
    split <;> decide
  case lineReset cause =>
    intro b
    rw [lineReset_bin, lineReset_flight]
    exact entrySound_lineReset (sound b) (by simp)
  case abandonRead d ch read =>
    obtain ⟨b, binds⟩ := abandonRead_binds ch (routes.sampled_tag read)
    refine sound.set binds.bins (fun c _ => by rw [only.flight_eq .super]) ?_
    rw [only.flight_eq .super]
    exact entrySound_bind (sound b) binds.accepts
  case completeRead d ch read =>
    obtain ⟨b, binds⟩ := completeRead_binds ch (routes.sampled_tag read)
    refine sound.set binds.bins (fun c _ => by rw [only.flight_eq .super]) ?_
    rw [only.flight_eq .super]
    exact entrySound_bind (sound b) binds.accepts
  case arrival r b next mem =>
    refine sound.set (arrival_bin s r b) (fun c _ => by rw [only.flight_eq .super]) ?_
    rw [only.flight_eq .super]
    refine entrySound_arrived (sound b) ?_
    rw [routes.bound b]
    exact List.countP_pos_iff.mpr ⟨_, mem_routesOf mem, by simpa using routes.expected _ (mem_routesOf mem) b next⟩
  case purge =>
    intro b
    rw [purgeTrack_bin, only.flight_eq .super]
    exact entrySound_unbound (sound b)
  case finishSwap =>
    rcases finishSwap_cases s with ⟨b, flight, state, unbound, ended⟩ | same
    · have free : s.finishSwap.flight .super = none := by rw [ended, completeFlight_flight]
      refine sound.set (b := b) (e := { s.bin b with state := .withheld }) (fun c => ?_) (fun c other => ?_) ?_
      · rw [ended, (completeFlight_only _ .super .done).bin_eq c, setBin_bin]
      · rw [free, flight]
        simp [Ne.symm other]
      · rw [free]
        exact entrySound_withheld (sound b) unbound (by simp)
    · rw [same]
      exact sound
  case abort x call k flight =>
    have bins (c : Bin) : ((abortEffect k s).complete x call .aborted).bin c = (abortEffect k s).bin c :=
      (complete_only _ x call .aborted).bin_eq c
    by_cases here : x = .super
    · subst here
      have free := complete_flight (abortEffect k s) .super call .aborted
      intro c
      rw [bins, abortEffect_bin, free]
      split
      next swap => exact entrySound_aborted (sound c) (by simp)
      next other =>
        obtain ⟨capacity, fits, available, full, swapping, withheld⟩ := sound c
        refine ⟨capacity, fits, available, full, ?_, withheld⟩
        rw [swapping, flight]
        simpa using other
    · have kept : ((abortEffect k s).complete x call .aborted).flight .super = s.flight .super :=
        only.flight_eq .super (by simp [Ne.symm here])
      intro c
      rw [bins, abortEffect_bin, kept, if_neg]
      · exact sound c
      · rintro rfl
        exact here (listed x _ flight)
  case setParam p v _ =>
    intro c
    rw [writeParam_bin, only.flight_eq .super]
    split
    next named =>
      subst named
      obtain ⟨range, room⟩ := clampCapacity_range (sound c) v
      exact entrySound_capacity (sound c) range room
    next => exact sound c
  case blockRead call k block free =>
    refine sound.of_free only.bins_eq (by simp [flight_of_free (x := .super) free]) fun b => ?_
    rw [takeOff_flight]
    simpa using not_swapTray_of_isBlock (.inr block) b
  case withhold b here unbound =>
    refine sound.set (setBin_bin s b · _) (fun c _ => by rw [only.flight_eq .super]) ?_
    rw [only.flight_eq .super]
    exact entrySound_withheld (sound b) unbound fun swap => here (.inl ((sound b).swapping.mpr swap))
  case swapTray call b here free =>
    refine sound.set (b := b) (e := { s.bin b with state := .swapping }) (fun c => ?_) (fun c other => ?_) ?_
    · rw [(takeOff_only _ .super call _).bin_eq c, setBin_bin]
    · rw [takeOff_flight, flight_of_free (x := .super) free]
      simp [Ne.symm other]
    · rw [takeOff_flight]
      exact entrySound_swapping (sound b) rfl
  case trayReady b away =>
    refine sound.set (setBin_bin s b · _) (fun c _ => by rw [only.flight_eq .super]) ?_
    rw [only.flight_eq .super]
    exact entrySound_ready (sound b) away
  case nextStage x k l same flight =>
    by_cases here : x = .super
    · subst here
      refine sound.of_free only.bins_eq (fun b => ?_) fun b => ?_
      · rw [flight]
        simpa using not_swapTray_of_isBlock (sameFlight_isBlock_left same) b
      · rw [setFlight_flight l flight]
        simpa using not_swapTray_of_isBlock (sameFlight_isBlock same) b
    · exact sound.of_only only (flight := by simp [Ne.symm here])
  case endBlock x k code block flight =>
    by_cases here : x = .super
    · subst here
      refine sound.of_free only.bins_eq (fun b => ?_) fun b => ?_
      · rw [flight]
        simpa using not_swapTray_of_isBlock block b
      · rw [completeFlight_flight]
        simp
    · exact sound.of_only only (flight := by simp [Ne.symm here])
  all_goals exact sound.of_only only

theorem act_keeps_bins (fs : List Part) (s t : State) (act : Act fs s t) (sound : BinsSound s) : BinsSound t := by
  obtain ⟨track, listed, routes, table⟩ := (binsSound_iff s).mp sound
  exact (binsSound_iff t).mpr ⟨act_keeps_track fs s t act track, act_keeps_listed fs s t act listed,
    act_keeps_routes fs s t act track routes, act_keeps_table fs s t act listed routes table⟩

/-- Settles O21: the table and the track change together, act by act. -/
theorem stepsKeepTheBinTableSound : Obligations.StepsKeepTheBinTableSound :=
  step_keeps act_keeps_bins fun _ l sound =>
    { sound with track := trackSound_of_queue l sound.track, listed := sound.listed }

end Sys2Proof.Proofs
end

section
/-! PROOFS. What follows an event (R39, R49, R117, R130, R161): the conditions in the statements' words, and the completions,
each of which ends what it finds due, once, whatever the others do. -/

-- The proofs are elaborated one after another: the check gives each thread a large stack within a fixed memory.
set_option Elab.async false

namespace Sys2Proof.Proofs

open Sys2Proof.Machine
open Sys2Proof.Claims

/-! ### Conditions -/

theorem block_eq_inBlock (p : Port) : p.block = inBlock p := by
  unfold Port.block inBlock
  cases found : p.inFlight with
  | none => rfl
  | some f =>
    obtain ⟨kind, call⟩ := f
    cases kind with
    | loadMark l =>
      obtain ⟨slot, bank, count, clamped, phase⟩ := l
      cases phase <;> rfl
    | _ => rfl

theorem cmdOfCode_eq_abort {n : Nat} : cmdOfCode n = some .abort ↔ n = 0x7F := by
  constructor
  · unfold cmdOfCode
    split <;> simp
  · rintro rfl
    rfl

theorem takes_iff (p : Port) (a : Access) : p.takes a = true ↔ TakenNow p a := by
  cases a <;>
    simp [Port.takes, TakenNow, Port.busy, block_eq_inBlock, cmdOfByte, cmdOfCode_eq_abort]

theorem ready_iff (s : State) (x : PortId) : (s.port x).ready = true ↔ ∃ a, HeldDue s x a := by
  unfold Port.ready HeldDue
  cases held : (s.port x).held with
  | none => simp
  | some a => simp [takes_iff]

theorem permit_iff (s : State) : s.permit = true ↔ PermitOpen s := by
  unfold State.permit PermitOpen State.level allTrained
  simp only [Bool.and_eq_true, decide_eq_true_eq, beq_iff_eq, and_assoc]
  rfl

theorem referenced_iff (s : State) (l : Load) : s.bankReferenced l.slot l.bank = true ↔ Referenced s l := bankReferenced_iff

/-- A DRAIN's condition is met (R49). -/
def DrainDue (s : State) : Prop := s.line = .draining ∧ s.track = [] ∧ s.release = .none

/-- A SWAP TRAY's condition is met (R130). -/
def SwapDue (s : State) : Prop := ∃ b, s.flight .super = some (.swapTray b) ∧ (s.bin b).state = .swapping ∧ (s.bin b).bound = 0

/-- The reference wait of a LOAD MARK is over (R117). -/
def WaitDue (s : State) : Prop := ∃ l, s.flight .print = some (.loadMark l) ∧ l.phase = .wait ∧ ¬ Referenced s l

theorem noneComplete_iff (s : State) : NoneComplete s ↔ ¬ DrainDue s ∧ ¬ SwapDue s ∧ ¬ WaitDue s := by
  constructor
  · rintro ⟨drain, swap, load⟩
    exact ⟨drain, fun ⟨b, flight, state, unbound⟩ => swap b flight state unbound,
      fun ⟨l, flight, wait, free⟩ => free (load l flight wait)⟩
  · rintro ⟨drain, swap, load⟩
    exact ⟨drain, fun b flight state unbound => swap ⟨b, flight, state, unbound⟩,
      fun l flight wait => by_contra fun free => load ⟨l, flight, wait, free⟩⟩

/-! ### Each completion -/

theorem finishDrain_of_due {s : State} (due : DrainDue s) :
    s.finishDrain = State.endDrain { s with line := .idle, stallTimer := stoppedTimer } := if_pos ((drainDue_iff s).mpr due)

theorem finishDrain_of_not_due {s : State} (other : ¬ DrainDue s) : s.finishDrain = s :=
  if_neg fun due => other ((drainDue_iff s).mp due)

theorem finishSwap_of_due {s : State} {b : Bin} (flight : s.flight .super = some (.swapTray b))
    (state : (s.bin b).state = .swapping) (unbound : (s.bin b).bound = 0) :
    s.finishSwap = (s.setBin b { s.bin b with state := .withheld }).completeFlight .super .done := by
  unfold State.finishSwap
  rw [flight]
  exact if_pos ⟨state, unbound⟩

theorem finishSwap_of_not_due {s : State} (other : ¬ SwapDue s) : s.finishSwap = s := by
  rcases finishSwap_cases s with ⟨b, flight, state, unbound, -⟩ | same
  · exact absurd ⟨b, flight, state, unbound⟩ other
  · exact same

theorem finishWait_of_due {s : State} {l : Load} (flight : s.flight .print = some (.loadMark l)) (wait : l.phase = .wait)
    (free : ¬ Referenced s l) : s.finishWait = s.setFlight .print (.loadMark l.begin_) := by
  unfold State.finishWait
  rw [flight]
  dsimp only
  rw [wait]
  exact if_neg fun referenced => free ((referenced_iff s l).mp referenced)

theorem finishWait_of_not_due {s : State} (other : ¬ WaitDue s) : s.finishWait = s := by
  rcases finishWait_cases s with ⟨l, flight, wait, free, -⟩ | same
  · exact absurd ⟨l, flight, wait, fun held => by simp [(referenced_iff s l).mpr held] at free⟩ other
  · exact same

/-! ### What a completion leaves of the conditions -/

theorem Only.drainDue_iff {fs : List Part} {s t : State} (only : Only fs s t) (line : .line ∉ fs := by simp)
    (tags : .tags ∉ fs := by simp) (release : .release ∉ fs := by simp) : DrainDue t ↔ DrainDue s := by
  unfold DrainDue
  rw [only.line_eq line, only.release_eq release, only.track_nil tags]

theorem Only.swapDue_iff {fs : List Part} {s t : State} (only : Only fs s t) (bins : .bins ∉ fs := by simp)
    (flight : .flight .super ∉ fs := by simp) : SwapDue t ↔ SwapDue s := by
  unfold SwapDue
  rw [only.flight_eq .super flight]
  simp only [only.bin_eq _ bins]

theorem Only.referenced_iff {fs : List Part} {s t : State} (only : Only fs s t) (l : Load)
    (heads : ∀ h, .head h ∉ fs := by simp) : Referenced t l ↔ Referenced s l := by
  unfold Referenced
  simp only [only.head_eq _ (heads _)]

theorem Only.waitDue_iff {fs : List Part} {s t : State} (only : Only fs s t) (heads : ∀ h, .head h ∉ fs := by simp)
    (flight : .flight .print ∉ fs := by simp) : WaitDue t ↔ WaitDue s := by
  unfold WaitDue
  rw [only.flight_eq .print flight]
  simp only [only.referenced_iff _ heads]

theorem finishDrain_line (s : State) : ¬ DrainDue s.finishDrain := by
  by_cases due : DrainDue s
  · rw [finishDrain_of_due due]
    intro still
    have line : (State.endDrain { s with line := .idle, stallTimer := stoppedTimer }).line = .idle :=
      (endDrain_only _).line_eq
    rw [DrainDue, line] at still
    cases still.1
  · rwa [finishDrain_of_not_due due]

theorem finishSwap_flight (s : State) : ¬ SwapDue s.finishSwap := by
  by_cases due : SwapDue s
  · obtain ⟨b, flight, state, unbound⟩ := due
    rw [finishSwap_of_due flight state unbound]
    rintro ⟨c, still, -⟩
    rw [completeFlight_flight] at still
    cases still
  · rwa [finishSwap_of_not_due due]

theorem finishWait_phase (s : State) : ¬ WaitDue s.finishWait := by
  by_cases due : WaitDue s
  · obtain ⟨l, flight, wait, free⟩ := due
    rw [finishWait_of_due flight wait free]
    rintro ⟨m, still, waits, -⟩
    rw [setFlight_flight _ flight] at still
    cases still
    cases waits
  · rwa [finishWait_of_not_due due]

/-- The completions leave none due. -/
theorem completions_noneComplete (s : State) : NoneComplete s.completions := by
  rw [noneComplete_iff]
  have wait := finishWait_only s.finishDrain.finishSwap
  have swap := finishSwap_only s.finishDrain
  refine ⟨fun due => ?_, fun due => ?_, finishWait_phase _⟩
  · exact finishDrain_line s ((swap.trans wait).drainDue_iff.mp due)
  · exact finishSwap_flight _ (wait.swapDue_iff.mp due)

/-- With none due the completions do nothing. -/
theorem completions_of_none {s : State} (none : NoneComplete s) : s.completions = s := by
  obtain ⟨drain, swap, wait⟩ := (noneComplete_iff s).mp none
  unfold State.completions
  rw [finishDrain_of_not_due drain, finishSwap_of_not_due swap, finishWait_of_not_due wait]

/-! ### The completions as one update -/

/-- A port whose command in flight, if there is one, ends DONE (R163). -/
def endedPort (p : Port) : Port :=
  match p.inFlight with
  | none => p
  | some f => p.complete .done f.call

theorem completeFlight_eq (s : State) (x : PortId) : s.completeFlight x .done = s.setPort x (endedPort (s.port x)) := by
  unfold State.completeFlight endedPort
  cases (s.port x).inFlight with
  | none => exact (State.setPort_self s x).symm
  | some f => rfl

/-- The Feed port once a DRAIN has ended. -/
def drainedPort (p : Port) : Port := if p.inFlight.map InFlight.kind = some .drain then endedPort p else p

theorem endDrain_eq (s : State) : s.endDrain = { s with portF := drainedPort s.portF } := by
  unfold State.endDrain drainedPort
  by_cases drain : s.flight .feed = some .drain
  · rw [if_pos drain, completeFlight_eq, if_pos (show s.portF.inFlight.map InFlight.kind = some .drain from drain)]
    rfl
  · rw [if_neg drain, if_neg (show ¬ s.portF.inFlight.map InFlight.kind = some .drain from drain)]

theorem finishDrain_finishDrain (s : State) : s.finishDrain.finishDrain = s.finishDrain :=
  finishDrain_of_not_due (finishDrain_line s)

theorem finishSwap_finishSwap (s : State) : s.finishSwap.finishSwap = s.finishSwap :=
  finishSwap_of_not_due (finishSwap_flight s)

theorem finishWait_finishWait (s : State) : s.finishWait.finishWait = s.finishWait :=
  finishWait_of_not_due (finishWait_phase s)

theorem finishSwap_finishDrain (s : State) : s.finishSwap.finishDrain = s.finishDrain.finishSwap := by
  have swapped := (finishDrain_only s).swapDue_iff
  have drained := (finishSwap_only s).drainDue_iff
  by_cases drain : DrainDue s
  · by_cases swap : SwapDue s
    · obtain ⟨b, flight, state, unbound⟩ := swap
      rw [finishDrain_of_due (drained.mpr drain), finishDrain_of_due drain, endDrain_eq, endDrain_eq,
        finishSwap_of_due flight state unbound, completeFlight_eq,
        finishSwap_of_due (s := { s with line := .idle, stallTimer := stoppedTimer, portF := drainedPort s.portF }) flight
          state unbound, completeFlight_eq]
      rfl
    · rw [finishSwap_of_not_due swap, finishSwap_of_not_due (mt swapped.mp swap)]
  · rw [finishDrain_of_not_due (mt drained.mp drain), finishDrain_of_not_due drain]

theorem finishWait_finishDrain (s : State) : s.finishWait.finishDrain = s.finishDrain.finishWait := by
  have waited := (finishDrain_only s).waitDue_iff
  have drained := (finishWait_only s).drainDue_iff
  by_cases drain : DrainDue s
  · by_cases wait : WaitDue s
    · obtain ⟨l, flight, waits, free⟩ := wait
      rw [finishDrain_of_due (drained.mpr drain), finishDrain_of_due drain, endDrain_eq, endDrain_eq,
        finishWait_of_due flight waits free,
        finishWait_of_due (s := { s with line := .idle, stallTimer := stoppedTimer, portF := drainedPort s.portF }) flight
          waits free]
      rfl
    · rw [finishWait_of_not_due wait, finishWait_of_not_due (mt waited.mp wait)]
  · rw [finishDrain_of_not_due (mt drained.mp drain), finishDrain_of_not_due drain]

theorem finishWait_finishSwap (s : State) : s.finishWait.finishSwap = s.finishSwap.finishWait := by
  have waited := (finishSwap_only s).waitDue_iff
  have swapped := (finishWait_only s).swapDue_iff
  by_cases swap : SwapDue s
  · by_cases wait : WaitDue s
    · obtain ⟨b, flight, state, unbound⟩ := swap
      obtain ⟨l, here, waits, free⟩ := wait
      rw [finishWait_of_due here waits free, finishSwap_of_due flight state unbound, completeFlight_eq,
        finishSwap_of_due (s := s.setFlight .print (.loadMark l.begin_)) flight state unbound, completeFlight_eq]
      exact (finishWait_of_due
        (s := (s.setBin b { s.bin b with state := .withheld }).setPort .super (endedPort (s.port .super))) here waits
        free).symm
    · rw [finishWait_of_not_due wait, finishWait_of_not_due (mt waited.mp wait)]
  · rw [finishSwap_of_not_due (mt swapped.mp swap), finishSwap_of_not_due swap]

/-- What one completion has done, the completions need not do again. -/
theorem finishDrain_completions (s : State) : s.finishDrain.completions = s.completions := by
  unfold State.completions
  rw [finishDrain_finishDrain]

theorem finishSwap_completions (s : State) : s.finishSwap.completions = s.completions := by
  unfold State.completions
  rw [finishSwap_finishDrain, finishSwap_finishSwap]

theorem finishWait_completions (s : State) : s.finishWait.completions = s.completions := by
  unfold State.completions
  rw [finishWait_finishDrain, finishWait_finishSwap, finishWait_finishWait]

end Sys2Proof.Proofs
end

section
/-! PROOFS. Held accesses (R161): one taken leaves those at the other ports, so that three takes leave none that could be
taken; and what a granted RELEASE brings about. -/

-- The proofs are elaborated one after another: the check gives each thread a large stack within a fixed memory.
set_option Elab.async false

namespace Sys2Proof.Proofs

open Sys2Proof.Machine
open Sys2Proof.Claims

/-! ### An access taken leaves the accesses held -/

/-- Each port holds the access it held. -/
def HeldKept (s t : State) : Prop := ∀ x, (t.port x).held = (s.port x).held

theorem HeldKept.refl (s : State) : HeldKept s s := fun _ => rfl

theorem HeldKept.trans {s t u : State} (st : HeldKept s t) (tu : HeldKept t u) : HeldKept s u := fun x =>
  (tu x).trans (st x)

theorem Only.heldKept {fs : List Part} {s t : State} (only : Only fs s t) (absent : ∀ x, .held x ∉ fs := by simp) :
    HeldKept s t := fun x => only (.held x) (absent x)

section
variable (s : State) (x : PortId)

theorem dropOperand_only : Only [.ring x] s (s.dropOperand x) := setPort_only s _ x _

theorem push_only (bs : List Byte) : Only [.ring x] s (s.push x bs) := setPort_only s _ x _

theorem drive_only (b : Byte) : Only [.out x] s (s.drive x b) := setPort_only s _ x _

theorem ringWrite_only (b : Byte) : Only [.ring x] s (s.ringWrite x b) := setPort_only s _ x _

theorem ringRead_only : Only [.ring x, .out x] s (s.ringRead x) := setPort_only s _ x _

theorem loadByte_only (l : Load) (remaining next : Nat) (first : Option Byte) (b : Byte) :
    Only (.store :: endParts x) s (s.loadByte x l remaining next first b) := by
  have wrote (dots : Dots) : Only [.store] s (s.writeColumn l.slot l.bank next dots) := setSlot_only s _ _
  unfold State.loadByte
  split
  · exact (setFlight_only s x _).within
  · dsimp only
    split
    · exact (((wrote _).trans (setSlot_only _ _ _)).trans (completeFlight_only _ x _)).within
    · exact ((wrote _).trans (setFlight_only _ x _)).within

theorem blockWrite_only (b : Byte) : Only (.store :: endParts x) s (s.blockWrite x b) := by
  unfold State.blockWrite
  split
  · split
    · exact loadByte_only s x _ _ _ _ b
    · exact Only.refl _ s
  · exact Only.refl _ s

theorem nextTallyByte_only (remaining next pos : Nat) (clamped : Bool) :
    Only (endParts x) s (s.nextTallyByte x remaining next pos clamped) := by
  unfold State.nextTallyByte
  split
  · exact (setFlight_only s x _).within
  · split
    · exact completeFlight_only s x _
    · exact (setFlight_only s x _).within

theorem nextBlockByte_only (rest : List Byte) : Only (endParts x) s (s.nextBlockByte x rest) := by
  cases rest with
  | nil => exact completeFlight_only s x _
  | cons => exact (setFlight_only s x _).within

theorem blockRead_only : Only (.out x :: endParts x) s (s.blockRead x) := by
  unfold State.blockRead
  split
  · exact (drive_only s x _).trans (nextTallyByte_only _ x _ _ _ _)
  · exact (drive_only s x _).trans (nextBlockByte_only _ x _)
  · exact (drive_only s x _).within

theorem setFlags_only (v : Byte) : Only [.flags x] s (s.setPort x { s.port x with flags := v }) := setPort_only s _ x _

theorem setMask_only (v : Byte) : Only [.mask x] s (s.setPort x { s.port x with mask := v }) := setPort_only s _ x _

theorem setXdone_only (v : Bool) : Only [.xdone x] s (s.setPort x { s.port x with xdone := v }) := setPort_only s _ x _

theorem setSnapshot_only (v : Vector Nat 32) : Only [.snapshot] s { s with snapshot := v } := by
  intro q absent
  cases q
  case snapshot => exact absurd (by simp) absent
  all_goals rfl

theorem setLive_only (v : Vector Nat 32) : Only [.live] s { s with live := v } := by
  intro q absent
  cases q
  case live => exact absurd (by simp) absent
  all_goals rfl

end

section
variable (s : State) (x : PortId) (call : Bool)

/-- What a command can change at its own port without a completion (R160, R161). -/
abbrev takeParts (x : PortId) : List Part := .ring x :: .flags x :: .mask x :: endParts x

theorem cmdAckNotice_only : Only (takeParts x) s (cmdAckNotice x call s) :=
  ((((dropOperand_only s x).trans (push_only _ x _)).trans (setFlags_only _ x _)).trans (complete_only _ x call _)).within

theorem cmdSetNoticeMask_only : Only (takeParts x) s (cmdSetNoticeMask x call s) :=
  (((dropOperand_only s x).trans (setMask_only _ x _)).trans (complete_only _ x call _)).within

theorem cmdAbort_only :
    Only ([.release, .bins, .flags .super, .flags .feed] ++ endParts x) s (cmdAbort x call s) := by
  unfold cmdAbort
  split
  · exact (complete_only s x call _).within
  · exact (abortEffect_only _ s).trans (complete_only _ x call _)

theorem cmdStart_only : Only (.line :: .training :: endParts x) s (cmdStart x call s) := by
  have started := (setLine_only s .running).trans (setTraining_only { s with line := .running } (Vector.replicate 8 0))
  unfold cmdStart
  split
  · exact ((setLine_only s _).trans (complete_only _ x call _)).within
  · exact started.trans (complete_only _ x call _)
  all_goals exact (complete_only s x call _).within

theorem cmdRelease_only : Only (.release :: endParts x) s (cmdRelease x call s) := by
  unfold cmdRelease
  split
  · exact ((setRelease_only s _).trans (takeOff_only _ x call _)).within
  · exact (complete_only s x call _).within

theorem cmdDrain_only : Only (.line :: .stallTimer :: endParts x) s (cmdDrain x call s) := by
  unfold cmdDrain
  split
  · split
    · exact ((setLine_only s .idle).trans (setTimer_only { s with line := .idle } _)).trans (complete_only _ x call _)
    · exact ((setLine_only s _).trans (takeOff_only _ x call _)).within
  · exact (complete_only s x call _).within

theorem cmdStandby_only : Only (.line :: endParts x) s (cmdStandby x call s) := by
  unfold cmdStandby
  split
  · exact (setLine_only s _).trans (complete_only _ x call _)
  · exact (complete_only s x call _).within

theorem dropTwo_only : Only [.ring x] s ((s.dropOperand x).dropOperand x) :=
  ((dropOperand_only s x).trans (dropOperand_only _ x)).within

theorem cmdLoadMark_only : Only (.store :: .ring x :: endParts x) s (cmdLoadMark x call s) := by
  unfold cmdLoadMark
  dsimp only
  split
  · exact (((dropTwo_only s x).trans (setSlot_only _ _ _)).trans (takeOff_only _ x call _)).within
  · exact ((dropTwo_only s x).trans (complete_only _ x call _)).within

theorem cmdHeadOnline_only : Only (.head .high :: .head .low :: .ring x :: endParts x) s (cmdHeadOnline x call s) := by
  unfold cmdHeadOnline
  dsimp only
  split
  · exact ((dropOperand_only s x).trans (complete_only _ x call _)).within
  next h _ =>
    exact (((dropOperand_only s x).trans (takeOnline_only _ h)).trans (complete_only _ x call _)).mono (by cases h <;> simp)

theorem cmdHeadOffline_only : Only (markingParts ++ .ring x :: endParts x) s (cmdHeadOffline x call s) := by
  unfold cmdHeadOffline
  dsimp only
  split
  · exact ((dropOperand_only s x).trans (complete_only _ x call _)).within
  next h _ =>
    exact (((dropOperand_only s x).trans ((takeOffline_only _ h).mono (markParts_sub h))).trans
      (complete_only _ x call _)).within

theorem cmdReadHeads_only : Only (.ring x :: endParts x) s (cmdReadHeads x call s) :=
  (push_only s x _).trans (complete_only _ x call _)

theorem setParam_only (p : ParamId) (v : Nat) :
    Only ([.params, .bins, .flags .super, .flags .feed] ++ endParts x) s (s.setParam x call p v) := by
  unfold State.setParam
  dsimp only
  split
  · exact (complete_only s x call _).within
  · split
    · exact (complete_only s x call _).within
    · split
      · exact (writeParam_only s p _).trans (complete_only _ x call _)
      · exact (complete_only s x call _).within

theorem cmdSetParameter_only :
    Only ([.params, .bins, .flags .super, .flags .feed] ++ .ring x :: endParts x) s (cmdSetParameter x call s) := by
  have dropped := (dropTwo_only s x).trans (dropOperand_only _ x)
  unfold cmdSetParameter
  dsimp only
  split
  · exact (dropped.trans (complete_only _ x call _)).within
  · exact (dropped.trans (setParam_only _ x call _ _)).within

theorem cmdReadParameter_only : Only (.ring x :: endParts x) s (cmdReadParameter x call s) := by
  unfold cmdReadParameter
  dsimp only
  split
  · exact (dropOperand_only s x).trans (complete_only _ x call _)
  · exact (((dropOperand_only s x).trans (push_only _ x _)).trans (complete_only _ x call _)).within

theorem cmdSetSortEntry_only : Only (.sort :: .ring x :: endParts x) s (cmdSetSortEntry x call s) := by
  have dropped := (dropTwo_only s x).trans (dropTwo_only _ x)
  unfold cmdSetSortEntry
  dsimp only
  split
  · exact ((dropped.trans (setSort_only _ _)).trans (complete_only _ x call _)).within
  · exact (dropped.trans (complete_only _ x call _)).within

theorem cmdReadSortEntry_only : Only (.ring x :: endParts x) s (cmdReadSortEntry x call s) := by
  unfold cmdReadSortEntry
  dsimp only
  split
  · exact (dropOperand_only s x).trans (complete_only _ x call _)
  · exact (((dropOperand_only s x).trans (push_only _ x _)).trans (complete_only _ x call _)).within

theorem cmdSnapshotTallies_only : Only (.snapshot :: endParts x) s (cmdSnapshotTallies x call s) :=
  (setSnapshot_only s _).trans (complete_only _ x call _)

theorem cmdReadTallies_only : Only (.ring x :: endParts x) s (cmdReadTallies x call s) := by
  unfold cmdReadTallies
  dsimp only
  split
  · exact ((dropTwo_only s x).trans (takeOff_only _ x call _)).within
  · exact (dropTwo_only s x).trans (complete_only _ x call _)

theorem cmdClearTallies_only : Only (.live :: .throughput :: endParts x) s (cmdClearTallies x call s) := by
  have cleared := (setLive_only s (Vector.replicate 32 0)).trans
    (setThroughput_only { s with live := Vector.replicate 32 0 } freshThroughput)
  unfold cmdClearTallies
  split
  · exact cleared.trans (complete_only _ x call _)
  · exact (complete_only s x call _).within

theorem swap_only (b : Bin) : Only (.bins :: endParts x) s (s.swap x call b) := by
  unfold State.swap
  split
  · exact (complete_only s x call _).within
  · split
    · exact (setBin_only s b _).trans (complete_only _ x call _)
    · exact ((setBin_only s b _).trans (takeOff_only _ x call _)).within

theorem cmdSwapTray_only : Only (.bins :: .ring x :: endParts x) s (cmdSwapTray x call s) := by
  unfold cmdSwapTray
  dsimp only
  split
  · exact ((dropOperand_only s x).trans (complete_only _ x call _)).within
  · exact ((dropOperand_only s x).trans (swap_only _ x call _)).within

theorem cmdTrayReady_only : Only (.bins :: .ring x :: endParts x) s (cmdTrayReady x call s) := by
  unfold cmdTrayReady
  dsimp only
  split
  · exact ((dropOperand_only s x).trans (complete_only _ x call _)).within
  next b _ =>
    split
    · exact (((dropOperand_only s x).trans (setBin_only _ b _)).trans (complete_only _ x call _)).within
    · exact ((dropOperand_only s x).trans (complete_only _ x call _)).within

theorem cmdReadPiece_only : Only (.ring x :: endParts x) s (cmdReadPiece x call s) := by
  unfold cmdReadPiece
  dsimp only
  split
  · exact (dropOperand_only s x).trans (complete_only _ x call _)
  · exact (((dropOperand_only s x).trans (push_only _ x _)).trans (complete_only _ x call _)).within

theorem cmdReadLine_only : Only (.ring x :: endParts x) s (cmdReadLine x call s) :=
  (push_only s x _).trans (complete_only _ x call _)

theorem cmdPurge_only :
    Only (.lastRes :: .live :: .flags .super :: .iOcc :: .rOcc :: .bins :: .stallTimer :: trackParts ++ endParts x) s
      (cmdPurge x call s) := by
  unfold cmdPurge
  split
  · exact (purgeTrack_only s).trans (complete_only _ x call _)
  · exact (complete_only s x call _).within

theorem cmdResume_only : Only (.line :: endParts x) s (cmdResume x call s) := by
  unfold cmdResume
  split
  · exact (setLine_only s _).trans (complete_only _ x call _)
  · exact (complete_only s x call _).within

theorem lineReset_heldKept (cause : ResetCause) : HeldKept s (s.lineReset cause) := by
  rw [lineReset_eq_afterLineReset]
  intro x
  cases x <;> rfl

/-- No command of the table touches a held access. -/
theorem runCmd_heldKept (c : Cmd) : HeldKept s (runCmd c x call s) := by
  cases c with
  | ackNotice => exact (cmdAckNotice_only s x call).heldKept
  | setNoticeMask => exact (cmdSetNoticeMask_only s x call).heldKept
  | abort => exact (cmdAbort_only s x call).heldKept
  | start => exact (cmdStart_only s x call).heldKept
  | release => exact (cmdRelease_only s x call).heldKept
  | drain => exact (cmdDrain_only s x call).heldKept
  | standby => exact (cmdStandby_only s x call).heldKept
  | loadMark => exact (cmdLoadMark_only s x call).heldKept
  | headOnline => exact (cmdHeadOnline_only s x call).heldKept
  | headOffline => exact (cmdHeadOffline_only s x call).heldKept
  | readHeads => exact (cmdReadHeads_only s x call).heldKept
  | setParameter => exact (cmdSetParameter_only s x call).heldKept
  | readParameter => exact (cmdReadParameter_only s x call).heldKept
  | setSortEntry => exact (cmdSetSortEntry_only s x call).heldKept
  | readSortEntry => exact (cmdReadSortEntry_only s x call).heldKept
  | snapshotTallies => exact (cmdSnapshotTallies_only s x call).heldKept
  | readTallies => exact (cmdReadTallies_only s x call).heldKept
  | clearTallies => exact (cmdClearTallies_only s x call).heldKept
  | readThroughput => exact (takeOff_only s x call _).heldKept
  | swapTray => exact (cmdSwapTray_only s x call).heldKept
  | trayReady => exact (cmdTrayReady_only s x call).heldKept
  | readBins => exact (takeOff_only s x call _).heldKept
  | readPiece => exact (cmdReadPiece_only s x call).heldKept
  | readLine => exact (cmdReadLine_only s x call).heldKept
  | purge => exact (cmdPurge_only s x call).heldKept
  | resume => exact (cmdResume_only s x call).heldKept
  | lineReset => exact (lineReset_heldKept s _).trans (complete_only _ x call _).heldKept

theorem takeAccess_heldKept (a : Access) : HeldKept s (s.takeAccess x a) := by
  refine (setXdone_only s x false).heldKept.trans ?_
  unfold State.takeAccess
  cases a with
  | dataWrite b =>
    dsimp only
    split
    · exact (blockWrite_only _ x b).heldKept
    · exact (ringWrite_only _ x b).heldKept
  | dataRead =>
    dsimp only
    split
    · exact (blockRead_only _ x).heldKept
    · exact (ringRead_only _ x).heldKept
  | statusRead => exact (drive_only _ x _).heldKept
  | commandWrite b =>
    change HeldKept _ (State.takeCommand _ x b)
    unfold State.takeCommand
    split
    · exact (complete_only _ x _ _).heldKept
    · split
      · exact runCmd_heldKept _ x _ _
      · exact (complete_only _ x _ _).heldKept

end

end Sys2Proof.Proofs
end

section
/-! PROOFS. After an event nothing is due (R39, R49, R117, R130, R161). -/

-- The proofs are elaborated one after another: the check gives each thread a large stack within a fixed memory.
set_option Elab.async false

namespace Sys2Proof.Proofs

open Sys2Proof.Machine
open Sys2Proof.Claims

/-! ### Three takes leave no access that could be taken -/

/-- The number of ports that hold an access. -/
def heldCount (s : State) : Nat := [PortId.feed, .print, .super].countP fun x => (s.port x).held.isSome

theorem heldCount_le (s : State) : heldCount s ≤ 3 := List.countP_le_length

theorem heldCount_congr {s t : State} (kept : HeldKept s t) : heldCount t = heldCount s :=
  List.countP_congr fun x _ => by rw [kept x]

theorem held_of_ready {p : Port} (ready : p.ready = true) : ∃ a, p.held = some a ∧ p.takes a = true := by
  unfold Port.ready at ready
  cases held : p.held with
  | none => rw [held] at ready; cases ready
  | some a => rw [held] at ready; exact ⟨a, rfl, ready⟩

/-- A port's access leaves it as it is taken, and the others stay. -/
theorem heldCount_setHeld {s : State} {x : PortId} {a : Access} (held : (s.port x).held = some a) :
    heldCount (s.setPort x { s.port x with held := none }) + 1 = heldCount s := by
  unfold heldCount
  cases x <;> simp_all [State.port, State.setPort, List.countP_cons] <;> omega

theorem takeHeld_of_held {s : State} {x : PortId} {a : Access} (held : (s.port x).held = some a) :
    s.takeHeld x = (s.setPort x { s.port x with held := none }).takeAccess x a := by
  unfold State.takeHeld
  rw [held]

theorem heldCount_takeHeld {s : State} {x : PortId} (ready : (s.port x).ready = true) :
    heldCount (s.takeHeld x).completions + 1 = heldCount s := by
  obtain ⟨a, held, -⟩ := held_of_ready ready
  rw [heldCount_congr (completions_only _).heldKept, takeHeld_of_held held, heldCount_congr (takeAccess_heldKept _ x a)]
  exact heldCount_setHeld held

/-- No held access could be taken. -/
def NoneReady (s : State) : Prop := ∀ x, (s.port x).ready = false

theorem noneReady_iff (s : State) : NoneReady s ↔ ∀ x a, ¬ HeldDue s x a := by
  unfold NoneReady
  refine forall_congr' fun x => ?_
  rw [← Bool.not_eq_true, ready_iff, not_exists]

theorem noneReady_iff_readyPorts (s : State) : NoneReady s ↔ s.readyPorts = [] := by
  rw [List.eq_nil_iff_forall_not_mem]
  refine forall_congr' fun x => ?_
  rw [mem_readyPorts, Bool.not_eq_true]

theorem takeOneHeld_of_noneReady {s : State} (none : NoneReady s) : s.takeOneHeld = s := takeOneHeld_of_none s none

/-- A take either finds none to take, or takes one, with its completions. -/
theorem takeOneHeld_progress (s : State) :
    (NoneReady s ∧ s.takeOneHeld = s) ∨ (heldCount s.takeOneHeld + 1 = heldCount s ∧ NoneComplete s.takeOneHeld) := by
  rcases takeOneHeld_cases s with ⟨none, same⟩ | ⟨x, one, next⟩ | ⟨x, mem, -, next⟩
  · exact .inl ⟨(noneReady_iff_readyPorts s).mpr none, same⟩
  · rw [next]
    exact .inr ⟨heldCount_takeHeld (mem_readyPorts.mp (one ▸ List.mem_singleton_self x)), completions_noneComplete _⟩
  · rw [next]
    exact .inr ⟨heldCount_takeHeld (s := { s with freeCount := s.freeCount + 1 }) (mem_readyPorts.mp mem),
      completions_noneComplete _⟩

theorem noneReady_of_heldCount {s : State} (none : heldCount s = 0) : NoneReady s := by
  intro x
  have free := List.countP_eq_zero.mp none x (by cases x <;> simp)
  exact ready_of_quiet _ (Option.not_isSome_iff_eq_none.mp free)

/-- As many takes as there are held accesses leave none that could be taken. -/
theorem noneReady_iterate {n : Nat} {s : State} (enough : heldCount s ≤ n) : NoneReady (State.takeOneHeld^[n] s) := by
  induction n generalizing s with
  | zero => exact noneReady_of_heldCount (Nat.le_zero.mp enough)
  | succ n ih =>
    rw [Function.iterate_succ_apply]
    rcases takeOneHeld_progress s with ⟨none, same⟩ | ⟨less, -⟩
    · rw [same, Function.iterate_fixed same]
      exact none
    · exact ih (by omega)

theorem noneComplete_takeOneHeld {s : State} (none : NoneComplete s) : NoneComplete s.takeOneHeld := by
  rcases takeOneHeld_progress s with ⟨-, same⟩ | ⟨-, after⟩
  · rwa [same]
  · exact after

theorem noneComplete_takeAllHeld {s : State} (none : NoneComplete s) : NoneComplete s.takeAllHeld :=
  noneComplete_takeOneHeld (noneComplete_takeOneHeld (noneComplete_takeOneHeld none))

theorem noneReady_takeAllHeld (s : State) : NoneReady s.takeAllHeld := noneReady_iterate (n := 3) (heldCount_le s)

theorem takeAllHeld_of_noneReady {s : State} (none : NoneReady s) : s.takeAllHeld = s := takeAllHeld_of_none s none

/-! ### A grant -/

/-- What an access at a free Feed port does while a grant is outstanding and the line is RUNNING: the release state stands,
and nothing behind the other ports moves. -/
abbrev feedParts : List Part :=
  [.ring .feed, .flight .feed, .code .feed, .xdone .feed, .xcall .feed, .flags .feed, .mask .feed, .out .feed, .line]

theorem runCmd_feed_only {s : State} {c : Cmd} {g : Pos} (call : Bool) (listed : allowedAt c .feed = true)
    (free : s.portF.inFlight = none) (line : s.line = .running) (granted : s.release = .granted g) :
    Only feedParts s (runCmd c .feed call s) := by
  cases c with
  | ackNotice => exact (cmdAckNotice_only s .feed call).within
  | setNoticeMask => exact (cmdSetNoticeMask_only s .feed call).within
  | abort =>
    have idle : cmdAbort .feed call s = _ := cmdAbort_idle .feed call (flight_of_free (x := .feed) free)
    change Only feedParts s (cmdAbort .feed call s)
    rw [idle]
    exact (complete_only s .feed call .done).within
  | start =>
    change Only feedParts s (cmdStart .feed call s)
    rw [cmdStart_refused .feed call (.inl line)]
    exact (complete_only s .feed call .wrongState).within
  | release =>
    have stands : { s with release := s.release.ask } = s := by rw [granted]; cases s; simp_all [ReleaseState.ask]
    change Only feedParts s (cmdRelease .feed call s)
    rw [cmdRelease, if_pos line, stands]
    exact (takeOff_only s .feed call .release).within
  | drain =>
    change Only feedParts s (cmdDrain .feed call s)
    rw [cmdDrain_waits .feed call line (.inr (by simp [granted]))]
    exact ((setLine_only s _).trans (takeOff_only _ .feed call _)).within
  | standby => exact (cmdStandby_only s .feed call).within
  | _ => exact absurd listed (by simp [allowedAt])

theorem takeAccess_feed_only {s : State} {g : Pos} (a : Access) (free : s.portF.inFlight = none) (line : s.line = .running)
    (granted : s.release = .granted g) : Only feedParts s (s.takeAccess .feed a) := by
  have cleared := setXdone_only s .feed false
  have idle : ((s.setPort .feed { s.port .feed with xdone := false }).port .feed).block = false :=
    block_of_idle _ (by rw [State.setPort_port]; exact free)
  unfold State.takeAccess
  cases a with
  | dataWrite b =>
    dsimp only
    rw [idle]
    exact (cleared.trans (ringWrite_only _ .feed b)).within
  | dataRead =>
    dsimp only
    rw [idle]
    exact (cleared.trans (ringRead_only _ .feed)).within
  | statusRead => exact (cleared.trans (drive_only _ .feed _)).within
  | commandWrite b =>
    change Only feedParts s (State.takeCommand _ .feed b)
    unfold State.takeCommand
    split
    · exact (cleared.trans (complete_only _ .feed _ _)).within
    · split
      next listed =>
        exact (cleared.trans (runCmd_feed_only (s := s.setPort .feed { s.port .feed with xdone := false }) _ listed free line
          granted)).within
      next => exact (cleared.trans (complete_only _ .feed _ _)).within

/-- A port whose held access, flight and block phase stand could take no more than before. -/
theorem Only.ready_eq {fs : List Part} {s t : State} (only : Only fs s t) (x : PortId) (flight : .flight x ∉ fs := by simp)
    (held : .held x ∉ fs := by simp) : (t.port x).ready = (s.port x).ready := by
  have flight : (t.port x).inFlight = (s.port x).inFlight := only (.flight x) flight
  have held : (t.port x).held = (s.port x).held := only (.held x) held
  unfold Port.ready Port.takes Port.busy Port.block
  rw [flight, held]

/-- Behind a grant at most the access held at Feed is taken, and the grant stays outstanding. -/
theorem takeAllHeld_granted {s : State} {g : Pos} (ended : NoneComplete s) (print : (s.port .print).ready = false)
    (super : (s.port .super).ready = false) (free : s.portF.inFlight = none) (line : s.line = .running)
    (granted : s.release = .granted g) : s.takeAllHeld.release = .granted g := by
  by_cases ready : (s.port .feed).ready = true
  · obtain ⟨a, held, -⟩ := held_of_ready ready
    have one : s.readyPorts = [.feed] := by
      unfold State.readyPorts
      simp [ready, print, super]
    have let_go := setPort_only s [.held .feed] .feed { s.port .feed with held := none }
    have took := let_go.trans (takeAccess_feed_only (s := s.setPort .feed { s.port .feed with held := none }) a free line
      granted)
    rw [← takeHeld_of_held held] at took
    have release : (s.takeHeld .feed).release = .granted g := took.release_eq.trans granted
    have still : NoneComplete (s.takeHeld .feed) := by
      rw [noneComplete_iff] at ended ⊢
      obtain ⟨-, swap, wait⟩ := ended
      refine ⟨fun due => ?_, mt took.swapDue_iff.mp swap, mt took.waitDue_iff.mp wait⟩
      have unasked := due.2.2
      rw [release] at unasked
      cases unasked
    have empty : ((s.takeHeld .feed).port .feed).held = none := by
      rw [takeHeld_of_held held, takeAccess_heldKept _ .feed a .feed, State.setPort_port]
    have last : s.takeOneHeld = s.takeHeld .feed := by
      rcases takeOneHeld_cases s with ⟨other, -⟩ | ⟨x, only, next⟩ | ⟨x, -, several, -⟩
      · rw [one] at other
        cases other
      · rw [one] at only
        cases only
        rw [next, completions_of_none still]
      · rw [one] at several
        exact absurd several (by simp)
    have quiet : NoneReady (s.takeHeld .feed) := by
      intro x
      cases x with
      | feed => exact ready_of_quiet _ empty
      | print => exact (took.ready_eq .print).trans print
      | super => exact (took.ready_eq .super).trans super
    unfold State.takeAllHeld
    rw [last, takeOneHeld_of_noneReady quiet, takeOneHeld_of_noneReady quiet]
    exact release
  · rw [takeAllHeld_of_noneReady]
    · exact granted
    · intro x
      cases x with
      | feed => exact Bool.not_eq_true _ ▸ ready
      | print => exact print
      | super => exact super

/-- The grant judged with nothing else due leaves, with the access held behind it, nothing due. -/
theorem settled_judgeGrant {s : State} (ended : NoneComplete s) (quiet : NoneReady s) :
    Settled s.judgeGrant.takeAllHeld := by
  have only := judgeGrant_only s
  rcases judgeGrant_cases s with ⟨waiting, permit, granted⟩ | same
  · have release : s.judgeGrant.release = .granted s.pos := by
      rw [granted]
      exact (completeFlight_only _ .feed .done).release_eq
    have still : NoneComplete s.judgeGrant := by
      rw [noneComplete_iff] at ended ⊢
      obtain ⟨-, swap, wait⟩ := ended
      refine ⟨fun due => ?_, mt only.swapDue_iff.mp swap, mt only.waitDue_iff.mp wait⟩
      have unasked := due.2.2
      rw [release] at unasked
      cases unasked
    have free : s.judgeGrant.portF.inFlight = none := by
      rw [granted]
      exact Option.map_eq_none_iff.mp (completeFlight_flight _ .feed .done)
    have outstanding := takeAllHeld_granted still ((only.ready_eq .print).trans (quiet .print))
      ((only.ready_eq .super).trans (quiet .super)) free (only.line_eq.trans (permit_running permit)) release
    refine ⟨(noneReady_iff _).mp (noneReady_takeAllHeld _), noneComplete_takeAllHeld still, fun waits => ?_⟩
    rw [outstanding] at waits
    cases waits
  · rw [same, takeAllHeld_of_noneReady quiet]
    refine ⟨(noneReady_iff _).mp quiet, ended, fun waits isOpen => ?_⟩
    have granted : s.judgeGrant.release = .granted s.pos := by
      unfold State.judgeGrant
      rw [waits]
      dsimp only
      rw [if_pos ((permit_iff s).mpr isOpen)]
      exact (completeFlight_only _ .feed .done).release_eq
    rw [same, waits] at granted
    cases granted

/-! ### What follows an event -/

theorem settle_settled (s : State) : Settled s.settle :=
  settled_judgeGrant (noneComplete_takeAllHeld (completions_noneComplete s)) (noneReady_takeAllHeld _)

theorem judgeGrant_of_closed {s : State} (closed : s.release = .waiting → ¬ PermitOpen s) : s.judgeGrant = s := by
  rcases judgeGrant_cases s with ⟨waiting, permit, -⟩ | same
  · exact absurd ((permit_iff s).mp permit) (closed waiting)
  · exact same

/-- Where nothing is due nothing follows. -/
theorem settle_of_settled {s : State} (settled : Settled s) : s.settle = s := by
  have quiet := (noneReady_iff s).mpr settled.held
  rw [settle_eq, completions_of_none settled.ended, takeAllHeld_of_noneReady quiet, judgeGrant_of_closed settled.grant,
    takeAllHeld_of_noneReady quiet]

/-- The order between several ready ports is the only free choice, and using it is all that its counter records. -/
theorem takeOneHeld_takes {s : State} (some : ¬ NoneReady s) : ∃ x a n, HeldDue s x a ∧
    ((∀ y b, HeldDue s y b → y = x) → n = s.freeCount) ∧
      s.takeOneHeld = ((State.setPort { s with freeCount := n } x { s.port x with held := none }).takeAccess x a).completions := by
  rcases takeOneHeld_cases s with ⟨none, -⟩ | ⟨x, one, next⟩ | ⟨x, mem, several, next⟩
  · exact absurd ((noneReady_iff_readyPorts s).mpr none) some
  · have ready : (s.port x).ready = true := mem_readyPorts.mp (one ▸ List.mem_singleton_self x)
    obtain ⟨a, due⟩ := (ready_iff s x).mp ready
    exact ⟨x, a, s.freeCount, due, fun _ => rfl, by rw [next, takeHeld_of_held due.1]⟩
  · obtain ⟨a, due⟩ := (ready_iff s x).mp (mem_readyPorts.mp mem)
    refine ⟨x, a, s.freeCount + 1, due, fun alone => ?_, ?_⟩
    swap
    · rw [next, takeHeld_of_held (s := { s with freeCount := s.freeCount + 1 }) due.1]
      rfl
    have distinct : s.readyPorts.Nodup := List.Nodup.filter _ (by decide)
    have named (y : PortId) (mem : y ∈ s.readyPorts) : y = x := by
      obtain ⟨b, due⟩ := (ready_iff s y).mp (mem_readyPorts.mp mem)
      exact alone y b due
    match found : s.readyPorts with
    | [] | [_] => simp [found] at several
    | y :: z :: l =>
      rw [found] at named distinct
      have same : y = z := (named y (by simp)).trans (named z (by simp)).symm
      simp [same] at distinct

/-- With an access to take, the rest of what follows is what follows its take. -/
theorem settle_of_take {s u : State} (none : NoneComplete s) (some : ¬ NoneReady s) (took : s.takeOneHeld = u.completions) :
    s.settle = u.settle := by
  have less : heldCount u.completions ≤ 2 := by
    rcases takeOneHeld_progress s with ⟨quiet, -⟩ | ⟨less, -⟩
    · exact absurd quiet some
    · have most := heldCount_le s
      rw [took] at less
      omega
  have spent : s.takeAllHeld = u.completions.takeAllHeld := by
    have quiet : NoneReady u.completions.takeOneHeld.takeOneHeld := noneReady_iterate (n := 2) less
    unfold State.takeAllHeld
    rw [took, takeOneHeld_of_noneReady quiet]
  rw [settle_eq, settle_eq, completions_of_none none, spent]

/-- With nothing else due, the grant is judged. -/
theorem settle_of_noneReady {s : State} (none : NoneComplete s) (quiet : NoneReady s) :
    s.settle = s.judgeGrant.takeAllHeld := by
  rw [settle_eq, completions_of_none none, takeAllHeld_of_noneReady quiet]

theorem settle_judgeGrant {s : State} (none : NoneComplete s) (quiet : NoneReady s) : s.judgeGrant.settle = s.settle := by
  have still : NoneComplete s.judgeGrant := by
    have only := judgeGrant_only s
    rw [noneComplete_iff] at none ⊢
    obtain ⟨drain, swap, wait⟩ := none
    refine ⟨?_, mt only.swapDue_iff.mp swap, mt only.waitDue_iff.mp wait⟩
    rcases judgeGrant_cases s with ⟨-, permit, -⟩ | same
    · intro due
      have line := due.1
      rw [only.line_eq, permit_running permit] at line
      cases line
    · rwa [same]
  have settled := settled_judgeGrant none quiet
  have quietly := (noneReady_iff _).mpr settled.held
  rw [settle_of_noneReady none quiet, settle_eq, completions_of_none still, judgeGrant_of_closed settled.grant,
    takeAllHeld_of_noneReady quietly]

/-- An access sent to a port that holds none and takes it. -/
theorem access_of_due {s : State} {x : PortId} {a : Access} (n : Nat) (due : HeldDue s x a) :
    (State.setPort { s with freeCount := n } x { s.port x with held := none }).access x a =
      (State.setPort { s with freeCount := n } x { s.port x with held := none }).takeAccess x a := by
  refine access_taken _ x a (by rw [State.setPort_port]) ?_
  rw [State.setPort_port, takes_held]
  exact (takes_iff _ a).mpr due.2

/-- Settles O3: the completions leave none due, three takes leave no held access that could be taken, and behind a grant
nothing comes due again. -/
theorem eventsLeaveNothingDue : Obligations.EventsLeaveNothingDue := by
  refine ⟨fun c s t next => ?_, fun s => settle_of_settled, fun s => ⟨?_, ?_, ?_⟩, fun s none due => ?_, fun s none quiet => ?_⟩
  · obtain ⟨u, answer, -⟩ := exec_eq_settle c s
    rw [answer] at next
    cases next
    exact settle_settled u
  · exact congrArg Host.Outcome.next (by rw [settle_eq, finishDrain_completions, ← settle_eq])
  · exact congrArg Host.Outcome.next (by rw [settle_eq, finishSwap_completions, ← settle_eq])
  · exact congrArg Host.Outcome.next (by rw [settle_eq, finishWait_completions, ← settle_eq])
  · have some : ¬ NoneReady s := fun quiet => by
      obtain ⟨x, a, due⟩ := due
      exact (noneReady_iff s).mp quiet x a due
    obtain ⟨x, a, n, due, alone, took⟩ := takeOneHeld_takes some
    refine ⟨x, a, n, due, alone, congrArg Host.Outcome.next ?_⟩
    exact (congrArg State.settle (access_of_due n due)).trans (settle_of_take none some took).symm
  · exact congrArg Host.Outcome.next (settle_judgeGrant none ((noneReady_iff s).mpr quiet))

end Sys2Proof.Proofs
end

section
/-! PROOFS. Power-on (R157): the state it leaves meets the invariants, and nothing in it is due. -/

-- The proofs are elaborated one after another: the check gives each thread a large stack within a fixed memory.
set_option Elab.async false

namespace Sys2Proof.Proofs

open Sys2Proof.Machine
open Sys2Proof.Claims

/-! ### Nothing is in flight after power-on -/

/-- No port holds an access or has a command in flight, the line rests, and no RELEASE waits. -/
structure Calm (s : State) : Prop where
  held    : ∀ x, (s.port x).held = none
  flight  : ∀ x, s.flight x = none
  resting : s.line ≠ .draining
  unasked : s.release ≠ .waiting

theorem settled_of_calm {s : State} (calm : Calm s) : Settled s where
  held x a due := by
    rw [HeldDue, calm.held x] at due
    exact absurd due.1 nofun
  ended :=
    { drain := fun due => calm.resting due.1
      swap := fun b flight => absurd (flight.symm.trans (calm.flight .super)) nofun
      load := fun l flight => absurd (flight.symm.trans (calm.flight .print)) nofun }
  grant waiting := absurd waiting calm.unasked

theorem calm_of_freshPorts {s : State} (fresh : ∀ x, s.port x = freshPort) (resting : s.line ≠ .draining)
    (unasked : s.release ≠ .waiting) : Calm s where
  held x := by rw [fresh x]; rfl
  flight x := by rw [State.flight, fresh x]; rfl
  resting := resting
  unasked := unasked

theorem calm_reset : Calm State.reset := calm_of_freshPorts reset_port nofun nofun

theorem calm_powerOn (s : State) (cells : CellLevels) (asserted : Bool) : Calm (s.powerOn cells asserted) := by
  refine calm_of_freshPorts (fun x => ?_) nofun nofun
  cases x <;> rfl

/-- Settles O12: nothing is due in what the power-on leaves. -/
theorem powerOnTakesTheInputsAsTheyStand : Obligations.PowerOnTakesTheInputsAsTheyStand := fun s cells asserted =>
  congrArg Host.Outcome.next (settle_of_settled (settled_of_calm (calm_powerOn s cells asserted)))

/-! ### The invariants after power-on -/

theorem trackSound_reset : TrackSound State.reset where
  room := Nat.zero_le _
  distinct := List.nodup_nil
  fresh _ mem := absurd mem List.not_mem_nil
  granted g same := absurd (show ReleaseState.none = .granted g from same) nofun

theorem headSound_reset (h : HeadId) : HeadSound (State.reset.head h) := by
  rw [reset_head h]
  exact { offline := fun _ => ⟨rfl, rfl, rfl⟩, order := fun some => absurd rfl some, working := nofun }

theorem flightsListed_reset : FlightsListed State.reset := fun x _ flight =>
  absurd (flight.symm.trans (calm_reset.flight x)) nofun

theorem lineSound_reset : LineSound State.reset where
  resting _ := ⟨rfl, rfl⟩
  jammed := nofun
  closed := nofun
  empty := nofun
  timer _ := rfl
  waiting := nofun
  asked := nofun
  drain := nofun
  listed := flightsListed_reset

theorem countsSound_reset : CountsSound State.reset where
  baselines := by decide
  training := by decide
  live := by decide
  snapshot := by decide

theorem balanced_reset : Balanced State.reset where
  inducted _ _ _ := rfl
  exited _ _ := rfl

/-- Every bin is empty and AVAILABLE, with room for its capacity (R124). -/
theorem binsSound_reset : BinsSound State.reset where
  track := trackSound_reset
  listed := flightsListed_reset
  bound b := by rw [reset_bin b]; rfl
  expected _ mem := absurd mem List.not_mem_nil
  unread _ mem := absurd mem List.not_mem_nil
  sampled d ch same := absurd (show ReadState.idle = .sampling d ch from same) nofun
  jammed _ := rfl
  capacity b := by
    rw [reset_bin b]
    dsimp only [freshBin]
    split <;> omega
  fits k := by rw [reset_bin]; exact Nat.zero_le _
  available b _ := by
    rw [reset_bin b]
    dsimp only [freshBin]
    split <;> omega
  full b state := by rw [reset_bin b] at state; cases state
  swapping b := by
    rw [reset_bin b, calm_reset.flight .super]
    exact ⟨nofun, nofun⟩
  withheld k state := by rw [reset_bin] at state; cases state

/-- Settles O14: invariant by invariant. -/
theorem resetMeetsTheInvariants : Obligations.ResetMeetsTheInvariants :=
  ⟨fun x => by rw [reset_port x]; rfl, trackSound_reset, headSound_reset, lineSound_reset, paramsSound_default,
    countsSound_reset, ⟨trackSound_reset, lineSound_reset, balanced_reset⟩, binsSound_reset, settled_of_calm calm_reset⟩

end Sys2Proof.Proofs
end

section
/-! PROOFS. Accesses at a port (R159 to R163), command bytes (R161), and edges that only take the level (R3, R13). -/

-- The proofs are elaborated one after another: the check gives each thread a large stack within a fixed memory.
set_option Elab.async false

namespace Sys2Proof.Proofs

open Sys2Proof.Machine
open Sys2Proof.Claims

/-! ### Command bytes (R161, 11.8) -/

theorem exec_written (c : Cmd) (x : PortId) (call : Bool) (s : State) : exec (written c x call) s = s.command c x call := by
  cases c <;> rfl

theorem byteFor_of_row {code : Nat} {c : Cmd} (row : (code, c) ∈ codeTable) (call : Bool) :
    byteFor code call = cmdByte c call := by
  have rows : ∀ row ∈ codeTable, row.1 = cmdCode row.2 := by decide
  have same : code = cmdCode c := rows _ row
  rw [byteFor, same, cmdByte]

theorem row_of_cmdOfCode {n : Nat} {c : Cmd} (named : cmdOfCode n = some c) : (n, c) ∈ codeTable := by
  unfold cmdOfCode at named
  split at named <;> cases named <;> decide

theorem cmdOfByte_eq_none {b : Byte} (free : ∀ code c, (code, c) ∈ codeTable → b.toNat % 128 ≠ code) :
    cmdOfByte b = none :=
  Option.eq_none_iff_forall_ne_some.mpr fun c named => free _ c (row_of_cmdOfCode named) rfl

theorem callOfByte_eq (b : Byte) : callOfByte b = decide (128 ≤ b.toNat) := BitVec.msb_eq_decide b

theorem allowedAt_of_unlisted {c : Cmd} {x : PortId} (unlisted : x ∉ listed c) : allowedAt c x = false := by
  revert unlisted
  cases c <;> cases x <;> decide

/-! ### An access a port takes or holds (R159, R161) -/

section
variable {s : State} {x : PortId}

/-- A command write at a ready port is judged on the state with the access taken (R161, R163). -/
theorem access_command_of_ready (ready : Ready s x) (b : Byte) :
    s.access x (.commandWrite b) = (taken s x (s.port x).ring).takeCommand x b := by
  obtain ⟨free, quiet, -⟩ := ready
  exact access_taken s x _ quiet (takes_of_idle _ _ free)

theorem takeCommand_unknown {b : Byte} (unknown : cmdOfByte b = none) :
    s.takeCommand x b = finished s x .unknownCommand (decide (128 ≤ b.toNat)) := by
  simp only [State.takeCommand, unknown, callOfByte_eq, complete_eq_finished]

theorem takeCommand_unlisted {c : Cmd} (unlisted : x ∉ listed c) (call : Bool) :
    s.takeCommand x (cmdByte c call) = finished s x .notPermitted call := by
  simp only [State.takeCommand, cmdOfByte_cmdByte, callOfByte_cmdByte, allowedAt_of_unlisted unlisted,
    complete_eq_finished, Bool.false_eq_true, if_false]

theorem access_of_not_taken {a : Access} (quiet : (s.port x).held = none) (wait : ¬ TakenNow (s.port x) a) :
    s.access x a = s.setPort x { s.port x with held := some a } :=
  access_waits s x a quiet (Bool.eq_false_iff.mpr (mt (takes_iff _ a).mp wait))

theorem not_taken_command {b : Byte} (busy : (s.port x).inFlight ≠ none) (other : b.toNat % 128 ≠ 0x7F) :
    ¬ TakenNow (s.port x) (.commandWrite b) := not_or.mpr ⟨busy, other⟩

theorem not_taken_data (busy : (s.port x).inFlight ≠ none) (outside : inBlock (s.port x) = false) :
    ¬ ((s.port x).inFlight = none ∨ inBlock (s.port x) = true) :=
  not_or.mpr ⟨busy, Bool.eq_false_iff.mp outside⟩

end

theorem cmdByte_ne_abort {c : Cmd} (other : c ≠ .abort) (call : Bool) : (cmdByte c call).toNat % 128 ≠ 0x7F := by
  intro code
  have named : cmdOfByte (cmdByte c call) = some .abort := cmdOfCode_eq_abort.mpr code
  rw [cmdOfByte_cmdByte] at named
  exact other (Option.some.inj named)

/-- Settles O4: a table byte is the command's byte; the port reads the command back off it, or finds none. -/
theorem commandBytesActByTheTable : Obligations.CommandBytesActByTheTable := by
  refine ⟨fun code c row x call s => ?byte, fun x b s ready free i mem => ?unknown, fun c x call s ready unlisted => ?unlisted⟩
  case byte => rw [byteFor_of_row row call, exec_written c x call s]; rfl
  case unknown =>
    have same : exec i s = .next (s.access x (.commandWrite b)).settle := by
      simp only [List.mem_cons, List.not_mem_nil, or_false] at mem
      obtain rfl | rfl := mem <;> rfl
    rw [same, access_command_of_ready ready, takeCommand_unknown (cmdOfByte_eq_none free)]
  case unlisted =>
    have refused := (access_command_of_ready ready (cmdByte c call)).trans (takeCommand_unlisted unlisted call)
    rw [exec_written c x call s]
    exact congrArg (fun t : State => Host.Outcome.next t.settle) refused

/-- Settles O5: at a BUSY port a command other than ABORT waits, and outside a block phase a data access does. -/
theorem busyPortHoldsTheAccess : Obligations.BusyPortHoldsTheAccess := by
  intro s x busy quiet
  have waits {a : Access} (wait : ¬ TakenNow (s.port x) a) :
      Host.Outcome.next (s.access x a).settle =
        (.next (s.setPort x { s.port x with held := some a }).settle : Result) := by
    rw [access_of_not_taken quiet wait]
  refine ⟨fun code c row other call => ?command, fun b other => ?byte, fun outside => ⟨fun b i mem => ?write, fun i mem => ?read⟩⟩
  case command =>
    rw [exec_written c x call s, byteFor_of_row row call]
    exact waits (not_taken_command busy (cmdByte_ne_abort other call))
  case byte => exact waits (not_taken_command busy other)
  case write =>
    simp only [List.mem_cons, List.not_mem_nil, or_false] at mem
    obtain rfl | rfl := mem <;> exact waits (a := .dataWrite b) (not_taken_data busy outside)
  case read =>
    simp only [List.mem_cons, List.not_mem_nil, or_false] at mem
    obtain rfl | rfl := mem <;> exact waits (a := .dataRead) (not_taken_data busy outside)

/-! ### Data accesses outside a block phase (R160) -/

section
variable {s : State} {x : PortId}

theorem access_dataWrite_of_ready (ready : Ready s x) (b : Byte) :
    s.access x (.dataWrite b) = taken s x (b :: (s.port x).ring.dropLast) := by
  obtain ⟨free, quiet, -⟩ := ready
  rw [access_taken s x _ quiet (takes_of_idle _ _ free)]
  simp [State.takeAccess, block_of_idle, free, State.ringWrite, ringPush, taken]

theorem access_dataRead_of_ready (ready : Ready s x) {top : Byte} {rest : List Byte} (ring : (s.port x).ring = top :: rest) :
    s.access x .dataRead = s.setPort x { s.port x with ring := rest ++ [top], out := top, xdone := false } := by
  obtain ⟨free, quiet, -⟩ := ready
  rw [access_taken s x _ quiet (takes_of_idle _ _ free)]
  simp [State.takeAccess, block_of_idle, free, State.ringRead, ring, ringRotate, ringTop]

end

/-- Settles O6: a port that is not BUSY takes the access, and no block phase is active at it. -/
theorem dataAccessesWorkTheRing : Obligations.DataAccessesWorkTheRing := by
  refine ⟨fun s x b ready => ?_, fun s x => ⟨fun b => rfl, rfl⟩, fun s x top rest ready ring => ?_⟩
  · exact congrArg (fun t : State => Host.Outcome.next t.settle) (access_dataWrite_of_ready ready b)
  · exact congrArg (fun t : State => Host.Outcome.next t.settle) (access_dataRead_of_ready ready ring)

/-! ### The status byte (R163, 11.9) -/

/-- The weight of a status bit. -/
theorem toNat_mul_of_iff {b : Bool} {p : Prop} [Decidable p] (same : b = true ↔ p) (n : Nat) :
    b.toNat * n = if p then n else 0 := by
  by_cases holds : p
  · rw [if_pos holds, same.mpr holds, Bool.toNat_true, one_mul]
  · rw [if_neg holds, Bool.eq_false_iff.mpr (mt same.mp holds), Bool.toNat_false, zero_mul]

theorem codeNum_eq (c : Code) : codeNum c = resultNumber c := by
  cases c <;> rfl

theorem statusByte_eq (s : State) (x : PortId) : (s.port x).statusByte (s.line == .jammed) = statusOf s x := by
  have busy : (s.port x).busy = true ↔ ¬ (s.port x).inFlight = none := Option.isSome_iff_ne_none
  have notice : (s.port x).xatn = true ↔ ¬ (s.port x).flags &&& (s.port x).mask = 0 := bne_iff_ne
  have block : (s.port x).block = true ↔ inBlock (s.port x) = true := by rw [block_eq_inBlock]
  have jammed : (s.line == .jammed) = true ↔ s.line = .jammed := beq_iff_eq
  have code : (s.port x).codeField = if (s.port x).inFlight = none then resultNumber (s.port x).code else 15 := by
    rw [Port.codeField, codeNum_eq, if_congr busy rfl rfl, ite_not]
  rw [Port.statusByte, statusOf, toNat_mul_of_iff busy, toNat_mul_of_iff notice, toNat_mul_of_iff block,
    toNat_mul_of_iff jammed, code, ite_not, ite_not]

theorem statusByte_setXdone (p : Port) (done jammed : Bool) :
    { p with xdone := done }.statusByte jammed = p.statusByte jammed := rfl

/-- Settles O7: xDONE and the data lines are no part of the status byte. -/
theorem statusReadAndPulsesAreTakenAtOnce : Obligations.StatusReadAndPulsesAreTakenAtOnce := by
  refine fun s x => ⟨fun quiet => ?_, rfl, rfl⟩
  have read : s.access x .statusRead = s.setPort x { s.port x with out := statusOf s x, xdone := false } := by
    rw [access_taken s x .statusRead quiet rfl, ← statusByte_eq]
    simp [State.takeAccess, State.drive, statusByte_setXdone]
  exact congrArg (fun t : State => Host.Outcome.next t.settle) read

/-! ### Edges that only take the level (R3, R13) -/

section
variable {s : State} {x : Cell}

theorem lead_of_blocked (was : s.level x = .blocked) : s.lead x = s := if_pos was

theorem trail_of_clear (was : s.level x = .clear) : s.trail x = s := if_pos was

theorem judgeLead_resting (resting : Resting s) : s.judgeLead x = s.bump .strayEdges := by
  obtain line | line := resting <;> simp only [State.judgeLead, line]

theorem judgeLead_jammed (jammed : s.line = .jammed) : s.judgeLead x = s := by
  simp only [State.judgeLead, jammed]

theorem trail_of_still (was : s.level x = .blocked) (still : ¬ Moving s) : s.trail x = seen s x .clear := by
  have blocked : ¬ s.level x = .clear := by simp [was]
  exact (if_neg blocked).trans (if_neg fun moving => still (by simpa [State.moving] using moving))

/-- A trail edge whose judgement does nothing takes the level, moving or not. -/
theorem trail_of_idle_judgement (was : s.level x = .blocked) (idle : (seen s x .clear).judgeTrail x = seen s x .clear) :
    s.trail x = seen s x .clear := by
  by_cases moving : Moving s
  · rw [trail_of_moving moving was, idle]
  · exact trail_of_still was moving

theorem judgeTrail_other (notI : x ≠ .i) (notR : x ≠ .r) : s.judgeTrail x = s := by
  cases x with
  | i => exact absurd rfl notI
  | r => exact absurd rfl notR
  | _ => rfl

theorem judgeTrail_i_free (free : s.iOcc = none) : s.judgeTrail .i = s := by
  simp only [State.judgeTrail, free]

theorem judgeTrail_r_free (free : s.rOcc = none) : s.judgeTrail .r = s := by
  simp only [State.judgeTrail, free]

end

/-- Settles O26: case by case, the edge is none, or its judgement does nothing but count. -/
theorem edgesWithoutAnEffectTakeTheLevel : Obligations.EdgesWithoutAnEffectTakeTheLevel := by
  intro s x
  have lead {t : State} (same : s.lead x = t) : exec (.leadEdge x) s = .next t.settle :=
    congrArg (fun t : State => Host.Outcome.next t.settle) same
  have trail {t : State} (same : s.trail x = t) : exec (.trailEdge x) s = .next t.settle :=
    congrArg (fun t : State => Host.Outcome.next t.settle) same
  refine ⟨fun was => lead (lead_of_blocked was), fun was resting => lead ?_, fun was jammed => lead ?_,
    fun was => trail (trail_of_clear was), fun was still => trail (trail_of_still was still),
    fun was notI notR => trail (trail_of_idle_judgement was (judgeTrail_other notI notR)), ?_, ?_⟩
  · rw [lead_of_clear was, judgeLead_resting (s := seen s x .blocked) resting]
  · rw [lead_of_clear was, judgeLead_jammed (s := seen s x .blocked) jammed]
  · rintro was rfl free
    exact trail (trail_of_idle_judgement was (judgeTrail_i_free free))
  · rintro was rfl free
    exact trail (trail_of_idle_judgement was (judgeTrail_r_free free))

/-! ### The flip gate plan (R82, R83) -/

theorem reaches_iff (last : Option Pos) (p : Pos) : reaches last p = true ↔ ∀ t, last = some t → atOrAfter t p = true := by
  cases last <;> simp [reaches]

theorem overlaps_iff (last new : Window) : overlaps last new = true ↔ Overlap last new := by
  rw [overlaps, Bool.and_eq_true, reaches_iff, reaches_iff, Overlap]

section
variable {needed : Setting} {w : Window} {l : FlipReservation}

theorem planGate_agrees (agrees : ¬ Overlap l.win w ∨ l.setting = needed) (overlength : Bool) :
    planGate (some l) needed w overlength = (⟨needed, w⟩, false) := by
  have quiet : (overlaps l.win w && l.setting != needed) = false := by
    rw [Bool.eq_false_iff, ne_eq, Bool.and_eq_true, overlaps_iff, bne_iff_ne]
    rintro ⟨overlap, other⟩
    exact agrees.elim (absurd overlap) (absurd · other)
  simp only [planGate, quiet, Bool.false_eq_true, if_false]

theorem planGate_conflict (overlap : Overlap l.win w) (other : l.setting ≠ needed) (overlength : Bool) :
    planGate (some l) needed w overlength =
      if overlength then (⟨needed, afterWindow l.win w⟩, true) else (⟨l.setting, w⟩, true) := by
  have both : (overlaps l.win w && l.setting != needed) = true := by
    rw [Bool.and_eq_true, overlaps_iff]
    exact ⟨overlap, bne_iff_ne.mpr other⟩
  simp only [planGate, both, if_true]

end

/-- Settles O38: the overlap with another setting decides between the needed and the inherited setting. -/
theorem flipGatePlanMeetsTheLastReservation : Obligations.FlipGatePlanMeetsTheLastReservation := by
  refine fun needed w => ⟨fun overlength => rfl, fun l overlength agrees => planGate_agrees agrees overlength,
    fun l overlap other => planGate_conflict overlap other false, fun l t overlap turn ends => ?_⟩
  have other : l.setting ≠ .straight := by rw [turn]; decide
  rw [planGate_conflict overlap other true, if_pos rfl, afterWindow, ends]

end Sys2Proof.Proofs
end

section
/-! PROOFS. What an event brings about behind its own effect when no access is held (R29, R39, R49, R117, R130). -/

-- The proofs are elaborated one after another: the check gives each thread a large stack within a fixed memory.
set_option Elab.async false

namespace Sys2Proof.Proofs

open Sys2Proof.Machine
open Sys2Proof.Claims

/-! ### Ports and the permit through footprints -/

/-- The parts of a port. -/
abbrev portParts (x : PortId) : List Part :=
  [.ring x, .flight x, .code x, .xdone x, .xcall x, .flags x, .mask x, .held x, .out x]

section
variable {fs : List Part} {s t : State} (only : Only fs s t)
include only

theorem Only.port_eq (x : PortId) (absent : ∀ p ∈ portParts x, p ∉ fs := by simp) : t.port x = s.port x := by
  have same (p : Part) (mem : p ∈ portParts x) : p.Same s t := only p (absent p mem)
  have ring := same (.ring x) (by simp)
  have flight := same (.flight x) (by simp)
  have code := same (.code x) (by simp)
  have xdone := same (.xdone x) (by simp)
  have xcall := same (.xcall x) (by simp)
  have flags := same (.flags x) (by simp)
  have mask := same (.mask x) (by simp)
  have held := same (.held x) (by simp)
  have out := same (.out x) (by simp)
  simp only [Part.Same] at ring flight code xdone xcall flags mask held out
  cases here : t.port x
  simp_all

theorem Only.track_eq (absent : .track ∉ fs := by simp) : t.track = s.track := only .track absent

theorem Only.permitOpen_iff (line : .line ∉ fs := by simp) (cells : .cells ∉ fs := by simp) (gap : .gap ∉ fs := by simp)
    (params : .params ∉ fs := by simp) (track : .track ∉ fs := by simp) (training : .training ∉ fs := by simp)
    (bins : .bins ∉ fs := by simp) : PermitOpen t ↔ PermitOpen s := by
  have cells := only .cells cells
  have gap := only .gap gap
  have params := only .params params
  have training := only .training training
  simp only [Part.Same] at cells gap params training
  rw [PermitOpen, PermitOpen, only.line_eq line, only.track_eq track, only.bin_eq .endTray bins, cells, gap, params,
    training]

end

/-! ### A command that has ended -/

theorem endedPort_done {p : Port} {k : Flight} {call : Bool} (flight : p.inFlight = some { kind := k, call := call }) :
    DoneAt (endedPort p) call := by
  simp [endedPort, flight, Port.complete, DoneAt]

theorem drainedPort_done {p : Port} {call : Bool} (flight : p.inFlight = some { kind := .drain, call := call }) :
    DoneAt (drainedPort p) call := by
  rw [drainedPort, if_pos (by rw [flight]; rfl)]
  exact endedPort_done flight

theorem drainedPort_other {p : Port} (other : p.inFlight.map InFlight.kind ≠ some .drain) : drainedPort p = p :=
  if_neg other

theorem flight_of_inFlight {s : State} {x : PortId} {k : Flight} {call : Bool}
    (flight : (s.port x).inFlight = some { kind := k, call := call }) : s.flight x = some k := by
  rw [State.flight, flight]
  rfl

/-! ### The event's own effect ends no command -/

/-- `u` comes of `s` without a command ended, an access held or taken, or a bin's swap begun or ended: a bin's state stands,
but that an AVAILABLE one may be FULL. -/
structure Undone (s u : State) : Prop where
  commands : ∀ x, Undisturbed (s.port x) (u.port x)
  held     : ∀ x, (u.port x).held = (s.port x).held
  bins     : ∀ c, (u.bin c).state = (s.bin c).state ∨ (s.bin c).state = .available ∧ (u.bin c).state = .full

section
variable {s u : State}

theorem undone_of_ports {fs : List Part} (only : Only fs s u)
    (bins : ∀ c, (u.bin c).state = (s.bin c).state ∨ (s.bin c).state = .available ∧ (u.bin c).state = .full)
    (absent : ∀ x, ∀ p ∈ [Part.flight x, .code x, .xdone x, .xcall x, .held x], p ∉ fs := by simp) : Undone s u where
  commands x := ⟨only (.flight x) (absent x _ (by simp)), only (.code x) (absent x _ (by simp)),
    only (.xdone x) (absent x _ (by simp)), only (.xcall x) (absent x _ (by simp))⟩
  held x := only (.held x) (absent x _ (by simp))
  bins := bins

theorem undone_of_only {fs : List Part} (only : Only fs s u) (bins : .bins ∉ fs := by simp)
    (absent : ∀ x, ∀ p ∈ [Part.flight x, .code x, .xdone x, .xcall x, .held x], p ∉ fs := by simp) : Undone s u :=
  undone_of_ports only (fun c => Or.inl (by rw [only.bin_eq c bins])) absent

theorem undone_flight (undone : Undone s u) (x : PortId) : u.flight x = s.flight x := by
  rw [State.flight, State.flight, (undone.commands x).1]

theorem undone_swapping (undone : Undone s u) (c : Bin) : (u.bin c).state = .swapping ↔ (s.bin c).state = .swapping := by
  rcases undone.bins c with same | ⟨before, after⟩
  · rw [same]
  · rw [before, after]
    exact ⟨nofun, nofun⟩

theorem undone_away (undone : Undone s u) {c : Bin} (away : (s.bin c).state ≠ .available) :
    (u.bin c).state = (s.bin c).state :=
  (undone.bins c).resolve_right fun full => away full.1

end

/-! ### The event when no access is held -/

section
variable {u : State} (quiet : ∀ x, (u.port x).held = none)
include quiet

theorem settle_only : Only ([.line, .stallTimer, .bins, .flight .print, .release] ++ endParts .feed ++ endParts .super) u
    u.settle := by
  rw [settle_of_quiet u quiet]
  exact ((completions_only u).trans (judgeGrant_only _)).within

/-! The Feed port and the line. -/

/-- Behind a DRAIN's end no grant is judged. -/
theorem settle_drained (due : DrainDue u) :
    u.settle.line = .idle ∧ u.settle.release = .none ∧ u.settle.portF = drainedPort u.portF := by
  obtain ⟨line, track, release⟩ := due
  have drain : u.finishDrain = { u with line := .idle, stallTimer := stoppedTimer, portF := drainedPort u.portF } := by
    rw [finishDrain_of_due ⟨line, track, release⟩, endDrain_eq]
  have rest := (finishSwap_only u.finishDrain).trans (finishWait_only _)
  have unasked : u.completions.release = .none := by
    rw [show u.completions.release = u.finishDrain.release from rest.release_eq, drain]
    exact release
  have still : u.completions.judgeGrant = u.completions := judgeGrant_of_closed (by rw [unasked]; exact nofun)
  rw [settle_of_quiet u quiet, still]
  refine ⟨?_, unasked, ?_⟩
  · rw [show u.completions.line = u.finishDrain.line from rest.line_eq, drain]
  · rw [show u.completions.portF = u.finishDrain.portF from rest.port_eq .feed, drain]

/-- Without a DRAIN's end the completions leave line, release state and Feed port to the grant. -/
theorem settle_undrained (other : ¬ DrainDue u) :
    ∃ w, u.settle = w.judgeGrant ∧ Only ([.bins, .flight .print] ++ endParts .super) u w := by
  refine ⟨u.finishSwap.finishWait, ?_, ((finishSwap_only u).trans (finishWait_only _)).within⟩
  rw [settle_of_quiet u quiet, State.completions, finishDrain_of_not_due other]

theorem settle_stands (other : ¬ DrainDue u) :
    u.settle.line = u.line ∧ (u.release ≠ .waiting → u.settle.release = u.release ∧ u.settle.portF = u.portF) := by
  obtain ⟨w, settled, only⟩ := settle_undrained quiet other
  rw [settled]
  refine ⟨(only.trans (judgeGrant_only w)).line_eq, fun unasked => ?_⟩
  rw [judgeGrant_of_closed fun waiting => absurd (only.release_eq ▸ waiting) unasked]
  exact ⟨only.release_eq, only.port_eq .feed⟩

/-- A waiting RELEASE meets the permit as the completions leave it (R39). -/
theorem settle_waiting (waiting : u.release = .waiting) :
    (PermitOpen u.settle → u.settle.release = .granted u.settle.pos ∧ u.settle.portF = endedPort u.portF) ∧
      (¬ PermitOpen u.settle → u.settle.release = .waiting ∧ u.settle.portF = u.portF) := by
  have undrained : ¬ DrainDue u := fun due => by
    have release := due.2.2
    rw [waiting] at release
    cases release
  obtain ⟨w, settled, only⟩ := settle_undrained quiet undrained
  have permit : PermitOpen w.judgeGrant ↔ PermitOpen w := (judgeGrant_only w).permitOpen_iff
  have asks : w.release = .waiting := only.release_eq.trans waiting
  have port : w.portF = u.portF := only.port_eq .feed
  rw [settled, permit]
  refine ⟨fun opened => ?_, fun closed => ?_⟩
  · have grant : w.judgeGrant = State.completeFlight { w with release := .granted w.pos } .feed .done := by
      simp only [State.judgeGrant, asks, (permit_iff w).mpr opened, if_true]
    rw [grant, completeFlight_eq]
    exact ⟨rfl, congrArg endedPort port⟩
  · rw [judgeGrant_of_closed fun _ => closed]
    exact ⟨asks, port⟩

/-! The Supervisor port and the bins. -/

theorem settle_super : u.settle.portS = u.finishSwap.portS ∧ u.settle.bins = u.finishSwap.bins := by
  have settled : u.settle = u.finishSwap.finishDrain.finishWait.judgeGrant := by
    rw [settle_of_quiet u quiet, State.completions, finishSwap_finishDrain]
  have only := ((finishDrain_only u.finishSwap).trans (finishWait_only _)).trans (judgeGrant_only _)
  rw [settled]
  exact ⟨only.port_eq .super, only.bins_eq⟩

theorem settle_bin (c : Bin) : u.settle.bin c = u.finishSwap.bin c := by
  rw [State.bin, State.bin, (settle_super quiet).2]

theorem settle_bound (c : Bin) : (u.settle.bin c).bound = (u.bin c).bound := by
  rw [settle_bin quiet, finishSwap_bound]

/-! The Print port. -/

theorem settle_print : u.settle.portP = u.finishWait.portP := by
  have settled : u.settle = u.finishWait.finishDrain.finishSwap.judgeGrant := by
    rw [settle_of_quiet u quiet, State.completions, finishWait_finishDrain, finishWait_finishSwap]
  have only := ((finishDrain_only u.finishWait).trans (finishSwap_only _)).trans (judgeGrant_only _)
  rw [settled]
  exact only.port_eq .print

theorem settle_referenced (l : Load) : Referenced u.settle l ↔ Referenced u l := (settle_only quiet).referenced_iff l

end

/-! ### What the event completes -/

section
variable {s u : State} (undone : Undone s u) (quiet : ∀ x, (u.port x).held = none)
include undone quiet

theorem swapDue_of_swapEnds {c : Bin} (ends : SwapEnds s u.settle c) :
    u.flight .super = some (.swapTray c) ∧ (u.bin c).state = .swapping ∧ (u.bin c).bound = 0 := by
  obtain ⟨flight, state, bound⟩ := ends
  exact ⟨(undone_flight undone .super).trans flight, (undone_swapping undone c).mpr state, (settle_bound quiet c).symm.trans bound⟩

theorem swapEnds_of_due {c : Bin} (flight : u.flight .super = some (.swapTray c)) (state : (u.bin c).state = .swapping)
    (bound : (u.bin c).bound = 0) : SwapEnds s u.settle c :=
  ⟨(undone_flight undone .super).symm.trans flight, (undone_swapping undone c).mp state, (settle_bound quiet c).trans bound⟩

theorem settle_swapped {c : Bin} (ends : SwapEnds s u.settle c) :
    u.settle.portS = endedPort u.portS ∧ ∀ b, u.settle.bin b = if b = c then { u.bin c with state := .withheld } else u.bin b := by
  obtain ⟨flight, state, bound⟩ := swapDue_of_swapEnds undone quiet ends
  have swap : u.finishSwap = (u.setBin c { u.bin c with state := .withheld }).setPort .super (endedPort u.portS) := by
    rw [finishSwap_of_due flight state bound, completeFlight_eq]
    rfl
  refine ⟨?_, fun b => ?_⟩
  · rw [(settle_super quiet).1, swap]
    rfl
  · rw [settle_bin quiet, swap, State.bin, State.setPort_bins]
    exact setBin_bin u c b _

theorem settle_unswapped (stays : ∀ c, ¬ SwapEnds s u.settle c) :
    u.settle.portS = u.portS ∧ ∀ b, u.settle.bin b = u.bin b := by
  have other : ¬ SwapDue u := fun ⟨c, flight, state, bound⟩ => stays c (swapEnds_of_due undone quiet flight state bound)
  refine ⟨?_, fun b => ?_⟩
  · rw [(settle_super quiet).1, finishSwap_of_not_due other]
  · rw [settle_bin quiet, finishSwap_of_not_due other]

end

/-- Behind an effect that ends no command the event ends exactly those whose condition holds, and judges the grant. -/
theorem completes_of_undone {s u : State} (undone : Undone s u) : Completes s u := by
  rintro ⟨feed, print, super⟩
  have quiet : ∀ x, (u.port x).held = none := fun x => by
    rw [undone.held x]
    cases x <;> assumption
  have only := settle_only quiet
  have feedPort : Undisturbed s.portF u.portF := undone.commands .feed
  have superPort : Undisturbed s.portS u.portS := undone.commands .super
  have printPort : Undisturbed s.portP u.portP := undone.commands .print
  have free (x : PortId) : (u.settle.port x).held = none := (only.heldKept (by simp) x).trans (quiet x)
  exact
    { held := ⟨free .feed, free .print, free .super⟩
      drained := fun line track release => by
        have due : DrainDue u := ⟨line, only.track_eq ▸ track, release⟩
        obtain ⟨idle, unasked, port⟩ := settle_drained quiet due
        refine ⟨idle, unasked, fun call flight => ?_, fun other => ?_⟩
        · rw [port]
          exact drainedPort_done (feedPort.1.trans flight)
        · have still : drainedPort u.portF = u.portF :=
            drainedPort_other fun drain => other ((undone_flight undone .feed).symm.trans drain)
          rw [port, still]
          exact feedPort
      stands := fun other => by
        have undue : ¬ DrainDue u := fun ⟨line, track, release⟩ => by
          rw [only.track_eq] at other
          exact other.elim (absurd line) fun more => more.elim (absurd track) (absurd release)
        obtain ⟨line, rest⟩ := settle_stands quiet undue
        refine ⟨line, fun unasked => ?_⟩
        obtain ⟨release, port⟩ := rest unasked
        exact ⟨release, port ▸ feedPort⟩
      granted := fun waiting opened => by
        obtain ⟨release, port⟩ := (settle_waiting quiet waiting).1 opened
        refine ⟨release, fun call flight => ?_⟩
        rw [port]
        exact endedPort_done (feedPort.1.trans flight)
      waits := fun waiting closed => by
        obtain ⟨release, port⟩ := (settle_waiting quiet waiting).2 closed
        exact ⟨release, port ▸ feedPort⟩
      swapped := fun c call flight ends => by
        obtain ⟨port, bins⟩ := settle_swapped undone quiet ends
        refine ⟨?_, ?_⟩
        · rw [bins c, if_pos rfl]
        · rw [port]
          exact endedPort_done (superPort.1.trans flight)
      super := fun stays => by
        rw [(settle_unswapped undone quiet stays).1]
        exact superPort
      bins := fun c away stays => by
        by_cases swap : ∃ b, SwapEnds s u.settle b
        · obtain ⟨b, ends⟩ := swap
          have other : c ≠ b := fun same => stays (same ▸ ends)
          rw [(settle_swapped undone quiet ends).2 c, if_neg other, undone_away undone away]
        · rw [(settle_unswapped undone quiet (not_exists.mp swap)).2 c, undone_away undone away]
      loads := fun l call flight wait free => by
        have here : u.portP.inFlight = some { kind := .loadMark l, call := call } := printPort.1.trans flight
        have begun : u.finishWait.portP =
            { u.portP with inFlight := some { kind := .loadMark { l with phase := .block l.count 0 none }, call := call } } := by
          rw [finishWait_of_due (flight_of_inFlight (s := u) (x := .print) here) wait (mt (settle_referenced quiet l).mpr free)]
          show { u.portP with inFlight := u.portP.inFlight.map fun f : InFlight => { f with kind := .loadMark l.begin_ } } = _
          rw [here]
          rfl
        obtain ⟨-, code, done, call'⟩ := printPort
        rw [settle_print quiet, begun, show s.portP.code = u.portP.code from code.symm,
          show s.portP.xdone = u.portP.xdone from done.symm, show s.portP.xcall = u.portP.xcall from call'.symm]
      print := fun referenced => by
        have other : ¬ WaitDue u := fun ⟨l, flight, wait, free⟩ =>
          free ((settle_referenced quiet l).mp (referenced l ((undone_flight undone .print).symm.trans flight) wait))
        rw [settle_print quiet, finishWait_of_not_due other]
        exact printPort }

end Sys2Proof.Proofs
end

section
/-! PROOFS. The time base (R14, R15, R143, R144), the grant and its expiry (R38, R39, R43), the completions as rows (R49, R117, R130), and RELEASE (R37). -/

-- The proofs are elaborated one after another: the check gives each thread a large stack within a fixed memory.
set_option Elab.async false

namespace Sys2Proof.Proofs

open Sys2Proof.Machine
open Sys2Proof.Claims

/-! ### The stall timer at a time base expiry (R14, R15) -/

/-- The stall timer counts at the next time base expiry (R14). -/
def StallCounts (s : State) : Prop := Moving s ∧ s.track ≠ [] ∧ s.stallTimer.dormant = false

theorem bumpBy_with_stallTimer (s : State) (timer : StallTimer) (t : Tally) (n : Nat) :
    State.bumpBy { s with stallTimer := timer } t n = { s.bumpBy t n with stallTimer := timer } := by
  by_cases sat : Saturates s t n
  · rw [bumpBy_saturating (s := { s with stallTimer := timer }) sat, bumpBy_saturating sat]
    rfl
  · rw [bumpBy_silent (s := { s with stallTimer := timer }) sat, bumpBy_silent sat]
    rfl

section
variable {s : State}

theorem counts_iff (s : State) : (s.timerRuns && !s.stallTimer.dormant) = true ↔ StallCounts s := by
  rw [Bool.and_eq_true, timerRuns_iff, Bool.not_eq_true', and_assoc, StallCounts]

theorem countStall_of_counts (counts : StallCounts s) :
    s.countStall = { s with stallTimer := { count := nextCount s, dormant := false } } := by
  rw [State.countStall, if_pos ((counts_iff s).mpr counts), nextCount, ← counts.2.2]

theorem countStall_of_not_counts (stands : ¬ StallCounts s) : s.countStall = s :=
  if_neg (mt (counts_iff s).mp stands)

theorem stallDue_iff (s : State) : s.stallDue = true ↔ StallCounts s ∧ s.params.stallLimit ≤ s.stallTimer.count := by
  rw [State.stallDue, Bool.and_eq_true, counts_iff, decide_eq_true_iff]

theorem countStall_stallDue_iff (s : State) :
    s.countStall.stallDue = true ↔ StallCounts s ∧ s.params.stallLimit ≤ nextCount s := by
  by_cases counts : StallCounts s
  · have still : StallCounts { s with stallTimer := { count := nextCount s, dormant := false } } :=
      ⟨counts.1, counts.2.1, rfl⟩
    rw [countStall_of_counts counts, stallDue_iff]
    exact ⟨fun due => ⟨counts, due.2⟩, fun due => ⟨still, due.2⟩⟩
  · rw [countStall_of_not_counts counts, stallDue_iff]
    exact ⟨fun due => absurd due.1 counts, fun due => absurd due.1 counts⟩

theorem stallShare_of_not_counts (stands : ¬ StallCounts s) : stallShare s = s := if_neg stands

theorem stallShare_of_due (counts : StallCounts s) (due : s.params.stallLimit ≤ nextCount s) :
    stallShare s =
      { ((s.raise .feed .stall).raise .super .stall).bump .stalls with
        stallTimer := { count := nextCount s, dormant := true } } :=
  (if_pos counts).trans (if_pos due)

theorem stallShare_of_not_due (counts : StallCounts s) (early : nextCount s < s.params.stallLimit) :
    stallShare s = { s with stallTimer := { count := nextCount s, dormant := false } } :=
  (if_pos counts).trans (if_neg early.not_ge)

theorem expireStall_countStall (s : State) : s.countStall.expireStall = stallShare s := by
  have due := countStall_stallDue_iff s
  by_cases counts : StallCounts s
  · by_cases limit : s.params.stallLimit ≤ nextCount s
    · rw [State.expireStall, if_pos (due.mpr ⟨counts, limit⟩), countStall_of_counts counts, stallShare_of_due counts limit]
      exact congrArg (fun t : State => { t with stallTimer := { count := nextCount s, dormant := true } })
        (bumpBy_with_stallTimer ((s.raise .feed .stall).raise .super .stall) _ .stalls 1)
    · rw [State.expireStall, if_neg fun now => limit (due.mp now).2, countStall_of_counts counts,
        stallShare_of_not_due counts (not_le.mp limit)]
  · rw [State.expireStall, if_neg fun now => counts (due.mp now).1, countStall_of_not_counts counts,
      stallShare_of_not_counts counts]

theorem stallShare_only (s : State) : Only (.flags .feed :: .stallTimer :: countParts) s (stallShare s) := by
  rw [← expireStall_countStall]
  exact ((countStall_only s).trans (expireStall_only _)).within

/-! ### The interval at a time base expiry (R143, R144) -/

theorem intervalRuns_iff (s : State) : s.intervalRuns = true ↔ s.line ≠ .standby := bne_iff_ne

theorem intervalShare_standby (standby : s.line = .standby) : intervalShare s = s.throughput := if_pos standby

theorem intervalShare_of_due (awake : s.line ≠ .standby)
    (due : s.params.interval * 1000 ≤ s.throughput.elapsed + 1) :
    intervalShare s = { ring := nextRing s, newest := s.throughput.newest + 1, elapsed := 0, count := 0 } :=
  (if_neg awake).trans (if_pos due)

theorem intervalShare_of_not_due (awake : s.line ≠ .standby)
    (early : s.throughput.elapsed + 1 < s.params.interval * 1000) :
    intervalShare s = { s.throughput with elapsed := s.throughput.elapsed + 1 } :=
  (if_neg awake).trans (if_neg early.not_ge)

theorem countInterval_awake (awake : s.line ≠ .standby) :
    s.countInterval = { s with throughput := { s.throughput with elapsed := s.throughput.elapsed + 1 } } :=
  if_pos ((intervalRuns_iff s).mpr awake)

theorem countInterval_intervalDue_iff (s : State) :
    s.countInterval.intervalDue = true ↔ s.line ≠ .standby ∧ s.params.interval * 1000 ≤ s.throughput.elapsed + 1 := by
  by_cases standby : s.line = .standby
  · have stands : s.countInterval = s := if_neg fun runs => (intervalRuns_iff s).mp runs standby
    rw [stands, State.intervalDue, Bool.and_eq_true, intervalRuns_iff]
    exact ⟨fun due => absurd standby due.1, fun due => absurd standby due.1⟩
  · rw [countInterval_awake standby, State.intervalDue, Bool.and_eq_true, intervalRuns_iff, decide_eq_true_iff]

theorem endInterval_countInterval (s : State) :
    s.countInterval.endInterval = { s with throughput := intervalShare s } := by
  have due := countInterval_intervalDue_iff s
  by_cases standby : s.line = .standby
  · rw [State.endInterval, if_neg fun now => (due.mp now).1 standby, intervalShare_standby standby]
    exact if_neg fun runs => (intervalRuns_iff s).mp runs standby
  · by_cases limit : s.params.interval * 1000 ≤ s.throughput.elapsed + 1
    · rw [State.endInterval, if_pos (due.mpr ⟨standby, limit⟩), countInterval_awake standby,
        intervalShare_of_due standby limit]
      rfl
    · rw [State.endInterval, if_neg fun now => limit (due.mp now).2, countInterval_awake standby,
        intervalShare_of_not_due standby (not_le.mp limit)]

/-- The interval does not see what the stall timer does. -/
theorem intervalShare_stallShare (s : State) : intervalShare (stallShare s) = intervalShare s := by
  have only := stallShare_only s
  have line : (stallShare s).line = s.line := only.line_eq
  have params : (stallShare s).params = s.params := only .params (by simp)
  have throughput : (stallShare s).throughput = s.throughput := only .throughput (by simp)
  simp only [intervalShare, nextRing, line, params, throughput]

theorem timeBase_eq (s : State) : s.timeBase = { stallShare s with throughput := intervalShare s } := by
  rw [State.timeBase, expireStall_countStall, endInterval_countInterval, intervalShare_stallShare]

theorem timeBase_only (s : State) : Only (.throughput :: .flags .feed :: .stallTimer :: countParts) s s.timeBase := by
  rw [timeBase_eq]
  exact ((stallShare_only s).trans (setThroughput_only _ _)).within

/-- What the expired stall timer tells (R15): Stalls at both ports, and the saturation of its counter. -/
theorem stallShare_told (counts : StallCounts s) (due : s.params.stallLimit ≤ nextCount s) :
    (stallShare s).tally .stalls = raised s .stalls 1 ∧ (∀ v, v ≠ .stalls → (stallShare s).tally v = s.tally v) ∧
      (stallShare s).portF.flags = s.portF.flags ||| 4 ∧
      (stallShare s).portS.flags = s.portS.flags ||| 8 ||| saturation s (stallShare s) := by
  have raises := (raise_feed_ledger s .stall).trans (raise_super_ledger (s.raise .feed .stall) (n := .stall) rfl)
  have told := (raises.trans (bump_ledger _ .stalls)).trans
    (setTimer_only _ { count := nextCount s, dormant := true }).ledger
  rw [stallShare_of_due counts due]
  refine ⟨?_, fun v other => told.others v (by simpa using other), ?_, ?_⟩
  · rw [show raised s .stalls 1 = raised ((s.raise .feed .stall).raise .super .stall) .stalls 1 from rfl]
    exact bump_tally_self _ .stalls
  · exact (bump_only ((s.raise .feed .stall).raise .super .stall) .stalls) (.flags .feed) (by simp)
  · simpa using told.flags

end

/-- Settles O41: an expiry is the stall timer's share and the interval's, which ends no command. -/
theorem timeBaseExpiryDrivesTimerAndInterval : Obligations.TimeBaseExpiryDrivesTimerAndInterval := by
  intro s
  refine ⟨s.timeBase, rfl, timeBase_eq s, fun stands => ?_, fun moving track awake early low => ?_,
    fun moving track awake low due => ?_, fun standby => ?_, fun awake early => ?_, fun awake due => ?_,
    completes_of_undone (undone_of_only (timeBase_only s))⟩
  all_goals rw [timeBase_eq]
  · have idle : ¬ StallCounts s := fun ⟨moving, track, awake⟩ =>
      stands.elim (· moving) fun rest => rest.elim track fun dormant => by rw [awake] at dormant; cases dormant
    rw [stallShare_of_not_counts idle]
    exact ⟨rfl, rfl, rfl, rfl⟩
  · have next : nextCount s = s.stallTimer.count + 1 := Nat.min_eq_left low
    rw [stallShare_of_not_due ⟨moving, track, awake⟩ (next ▸ early), next]
    exact ⟨rfl, rfl, rfl, rfl⟩
  · have next : nextCount s = s.stallTimer.count + 1 := Nat.min_eq_left low
    have limit : s.params.stallLimit ≤ nextCount s := next ▸ due
    obtain ⟨stalls, others, feed, super⟩ := stallShare_told ⟨moving, track, awake⟩ limit
    refine ⟨?_, stalls, feed, super, others⟩
    rw [stallShare_of_due ⟨moving, track, awake⟩ limit, ← next]
  · exact intervalShare_standby standby
  · exact intervalShare_of_not_due awake early
  · exact intervalShare_of_due awake due

/-! ### The grant and its expiry (R38, R39, R43) -/

section
variable {s : State}

theorem completeFlight_of_flight {x : PortId} {k : Flight} {call : Bool}
    (flight : (s.port x).inFlight = some { kind := k, call := call }) (code : Code) :
    s.completeFlight x code = finished s x code call := by
  simp only [State.completeFlight, flight, complete_eq_finished]

theorem judgeGrant_of_open {call : Bool} (waiting : s.release = .waiting)
    (flight : s.portF.inFlight = some { kind := .release, call := call }) (permit : PermitOpen s) :
    s.judgeGrant = finished { s with release := .granted s.pos } .feed .done call := by
  simp only [State.judgeGrant, waiting, (permit_iff s).mpr permit, if_true]
  exact completeFlight_of_flight (s := { s with release := .granted s.pos }) (x := .feed) flight .done

theorem expireGrant_of_missed {g : Pos} (moving : Moving s) (granted : s.release = .granted g)
    (late : isAfter s.pos (g + BitVec.ofNat 16 s.params.geo.arrivalLimit) = true) :
    s.expireGrant =
      { (s.raise .feed .feedMiss).bump .feedMisses with
        release := if s.flight .feed = some .release then .waiting else .none } := by
  have missed : (s.moving && (s.arrivalWindow g).passed s.pos) = true := Bool.and_eq_true_iff.mpr ⟨moving_eq_true moving, late⟩
  simp only [State.expireGrant, granted, missed, if_true, releaseAfterGrant_eq_ite]

theorem expireGrant_of_standing {g : Pos} (granted : s.release = .granted g)
    (stands : ¬ Moving s ∨ isAfter s.pos (g + BitVec.ofNat 16 s.params.geo.arrivalLimit) = false) :
    s.expireGrant = s := by
  have early : (s.moving && (s.arrivalWindow g).passed s.pos) = false := Bool.eq_false_iff.mpr fun missed => by
    obtain ⟨moving, late⟩ := Bool.and_eq_true_iff.mp missed
    refine stands.elim (· (by simpa [State.moving] using moving)) fun before => ?_
    exact absurd (late.symm.trans before) nofun
  simp only [State.expireGrant, granted, early, Bool.false_eq_true, if_false]

theorem expireGrant_of_none (ungranted : s.release = .none ∨ s.release = .waiting) : s.expireGrant = s := by
  obtain release | release := ungranted <;> simp only [State.expireGrant, release]

end

/-- Settles O42: each row is its rule's step, which does nothing without the rule's condition. -/
theorem timeAndGrantRowsActOnTheirConditions : Obligations.TimeAndGrantRowsActOnTheirConditions := by
  intro s
  have row {t u : State} (same : t = u) : (Host.Outcome.next t.settle : Result) = .next u.settle := by rw [same]
  refine ⟨fun moving track awake due => row ?_, fun stands => row ?_, fun awake due => row ?_, fun stands => row ?_,
    fun g moving granted late => row (expireGrant_of_missed moving granted late),
    fun g granted stands => row (expireGrant_of_standing granted stands), fun ungranted => row (expireGrant_of_none ungranted),
    fun call waiting flight permit => row (judgeGrant_of_open waiting flight permit),
    fun closed => row (judgeGrant_of_closed fun waiting => closed.resolve_left (absurd waiting))⟩
  · have counts : StallCounts s := ⟨moving, track, awake⟩
    rw [State.stallExpiry, if_pos ((countStall_stallDue_iff s).mpr ⟨counts, due⟩), timeBase_eq,
      stallShare_of_due counts due]
  · refine if_neg fun due => ?_
    obtain ⟨⟨moving, track, awake⟩, limit⟩ := (countStall_stallDue_iff s).mp due
    rcases stands with still | empty | dormant | early
    · exact still moving
    · exact track empty
    · exact absurd (awake.symm.trans dormant) nofun
    · exact early.not_ge limit
  · rw [State.intervalExpiry, if_pos ((countInterval_intervalDue_iff s).mpr ⟨awake, due⟩), timeBase_eq,
      intervalShare_of_due awake due]
  · refine if_neg fun due => ?_
    obtain ⟨awake, limit⟩ := (countInterval_intervalDue_iff s).mp due
    exact stands.elim awake fun early => early.not_ge limit

/-! ### The completions as rows (R49, R117, R130) -/

theorem endDrain_of_other {s : State} (other : s.flight .feed ≠ some .drain) : s.endDrain = s := if_neg other

theorem setFlight_of_flight {s : State} {x : PortId} {k l : Flight} {call : Bool}
    (flight : (s.port x).inFlight = some { kind := k, call := call }) : s.setFlight x l = staying s x l call := by
  simp [State.setFlight, staying, flight]

/-- Settles O43: a completion acts where it is due. -/
theorem completionRowsActOnTheirConditions : Obligations.CompletionRowsActOnTheirConditions := by
  intro s call
  have row {t u : State} (same : t = u) : (Host.Outcome.next t.settle : Result) = .next u.settle := by rw [same]
  refine ⟨fun line track release flight => row ?_, fun line track release other => row ?_, fun undue => row ?_,
    fun b flight => ⟨fun state unbound => row ?_, fun undue => row ?_⟩, fun other => row ?_,
    fun l flight wait => ⟨fun free => row ?_, fun referenced => row ?_⟩, fun other => row ?_⟩
  · have drain : s.flight .feed = some .drain := flight_of_inFlight (x := .feed) flight
    rw [finishDrain_of_due ⟨line, track, release⟩]
    exact (if_pos drain).trans
      (completeFlight_of_flight (s := { s with line := .idle, stallTimer := stoppedTimer }) (x := .feed) flight .done)
  · rw [finishDrain_of_due ⟨line, track, release⟩]
    exact endDrain_of_other (s := { s with line := .idle, stallTimer := stoppedTimer }) other
  · refine finishDrain_of_not_due fun ⟨line, track, release⟩ => ?_
    exact undue.elim (absurd line) fun rest => rest.elim (absurd track) (absurd release)
  · rw [finishSwap_of_due (flight_of_inFlight (x := .super) flight) state unbound]
    exact completeFlight_of_flight (s := s.setBin b { s.bin b with state := .withheld }) (x := .super) flight .done
  · refine finishSwap_of_not_due fun ⟨c, here, state, unbound⟩ => ?_
    rw [flight_of_inFlight (x := .super) flight] at here
    cases here
    exact undue.elim (absurd state) (absurd unbound)
  · exact finishSwap_of_not_due fun ⟨c, here, _⟩ => other c here
  · have unreferenced : ¬ Referenced s l := fun ⟨h, r, holds, slot, bank⟩ =>
      (free h r holds).elim (absurd slot) (absurd bank)
    rw [finishWait_of_due (flight_of_inFlight (x := .print) flight) wait unreferenced]
    exact setFlight_of_flight (x := .print) flight
  · refine finishWait_of_not_due fun ⟨m, here, _, free⟩ => ?_
    rw [flight_of_inFlight (x := .print) flight] at here
    cases here
    exact free referenced
  · exact finishWait_of_not_due fun ⟨l, here, wait, _⟩ => other l here wait

/-! ### RELEASE (R37, R39) -/

section
variable {s : State} (x : PortId) (call : Bool)

theorem cmdRelease_asks (line : s.line = .running) (unasked : s.release = .none) :
    cmdRelease x call s = staying { s with release := .waiting } x .release call := by
  simp only [cmdRelease, line, unasked, ReleaseState.ask, if_true]
  rfl

theorem cmdRelease_asked (line : s.line = .running) (asked : s.release ≠ .none) :
    cmdRelease x call s = staying s x .release call := by
  have stands : s.release.ask = s.release := by
    cases release : s.release with
    | none => exact absurd release asked
    | waiting | granted g => rfl
  rw [cmdRelease, if_pos line, stands]
  rfl

theorem cmdRelease_refused (line : s.line ≠ .running) : cmdRelease x call s = finished s x .wrongState call := if_neg line

end

theorem exec_release {s : State} (call : Bool) (ready : Ready s .feed) :
    exec (.release .feed call) s = .next (cmdRelease .feed call (taken s .feed s.portF.ring)).settle :=
  command_of_ready (c := .release) call ready rfl

/-- A RELEASE taken in a settled state: nothing of the state is due but the grant. -/
theorem noneComplete_asking {s v : State} (settled : Settled s) (line : s.line = .running)
    (only : Only [.release, .ring .feed, .flight .feed, .xdone .feed] s v) : NoneComplete v := by
  obtain ⟨-, swap, wait⟩ := (noneComplete_iff s).mp settled.ended
  rw [noneComplete_iff]
  refine ⟨fun due => ?_, mt only.swapDue_iff.mp swap, mt only.waitDue_iff.mp wait⟩
  have draining := due.1
  rw [only.line_eq, line] at draining
  cases draining

/-- Settles O45: the release state decides whether RELEASE asks; at an open permit the event grants what it asks. -/
theorem releaseWaitsForItsGrant : Obligations.ReleaseWaitsForItsGrant := by
  intro s call ready u
  have line : u.line = s.line := taken_line s .feed _
  have release : u.release = s.release := taken_release s .feed _
  rw [exec_release call ready, ← line, ← release]
  refine ⟨fun running unasked => ?asks, fun running asked => ?asked, fun stands => ?refused,
    fun quiet settled running unasked permit => ?granted⟩
  case asks => rw [cmdRelease_asks .feed call running unasked]
  case asked => rw [cmdRelease_asked .feed call running asked]
  case refused => rw [cmdRelease_refused .feed call stands]
  case granted =>
    rw [cmdRelease_asks .feed call running unasked]
    set v : State := staying { u with release := .waiting } .feed .release call
    have only : Only [.release, .ring .feed, .flight .feed, .xdone .feed] s v :=
      (((setPort_only s [.ring .feed, .xdone .feed] .feed _).trans (setRelease_only u .waiting)).trans
        (setPort_only { u with release := .waiting } [.flight .feed] .feed _)).within
    have held : ∀ x, (v.port x).held = none := fun x => by
      obtain ⟨feed, print, super⟩ := quiet
      rw [only.heldKept (by simp) x]
      cases x <;> assumption
    have opened : PermitOpen v := only.permitOpen_iff.mpr permit
    rw [settle_of_quiet v held, completions_of_none (noneComplete_asking settled (line ▸ running) only),
      judgeGrant_of_open rfl rfl opened]
    have free : s.portF.inFlight = none := ready.1
    show Host.Outcome.next { s with
      release := .granted s.pos
      portF := { s.portF with inFlight := none, code := .done, xdone := true, xcall := call } } = _
    rw [← free]
    rfl

end Sys2Proof.Proofs
end

section
/-! PROOFS. Block phases (R118, R134, R140, R141, R145, R162). -/

-- The proofs are elaborated one after another: the check gives each thread a large stack within a fixed memory.
set_option Elab.async false

namespace Sys2Proof.Proofs

open Sys2Proof.Machine
open Sys2Proof.Claims

/-! ### A data access in a block phase (R162) -/

section
variable {s : State} {x : PortId}

theorem block_taken (block : inBlock (s.port x) = true) (ring : List Byte) : ((taken s x ring).port x).block = true := by
  have same : ((taken s x ring).port x).block = (s.port x).block := by
    simp [taken, Port.block]
  rw [same, block_eq_inBlock, block]

theorem access_dataWrite_in_block (quiet : (s.port x).held = none) (block : inBlock (s.port x) = true) (b : Byte) :
    s.access x (.dataWrite b) = (taken s x (s.port x).ring).blockWrite x b := by
  rw [access_taken s x _ quiet ((takes_iff _ (.dataWrite b)).mpr (Or.inr block))]
  exact if_pos (block_taken block _)

theorem access_dataRead_in_block (quiet : (s.port x).held = none) (block : inBlock (s.port x) = true) :
    s.access x .dataRead = (taken s x (s.port x).ring).blockRead x := by
  rw [access_taken s x _ quiet ((takes_iff _ .dataRead).mpr (Or.inr block))]
  exact if_pos (block_taken block _)

theorem inBlock_of_loading {l : Load} {call : Bool} {left next : Nat} {first : Option Byte}
    (flight : (s.port x).inFlight = some { kind := .loadMark l, call := call }) (phase : l.phase = .block left next first) :
    inBlock (s.port x) = true := by
  obtain ⟨slot, bank, count, clamped, stage⟩ := l
  obtain rfl : stage = .block left next first := phase
  rw [inBlock, flight]

theorem inBlock_of_tallies {left next pos : Nat} {clamped call : Bool}
    (flight : (s.port x).inFlight = some { kind := .readTallies left next pos clamped, call := call }) :
    inBlock (s.port x) = true := by rw [inBlock, flight]

theorem inBlock_of_bytes {bytes : List Byte} {call : Bool}
    (flight : (s.port x).inFlight = some { kind := .readBytes bytes, call := call }) : inBlock (s.port x) = true := by
  rw [inBlock, flight]

/-! ### The LOAD MARK block phase (R118) -/

section
variable {l : Load} {call : Bool} {left next : Nat} (flight : (s.port x).inFlight = some { kind := .loadMark l, call := call })
include flight

theorem blockWrite_loading {first : Option Byte} (phase : l.phase = .block left next first) (b : Byte) :
    s.blockWrite x b = s.loadByte x l left next first b := by
  simp only [State.blockWrite, flight_of_inFlight flight, phase]

theorem blockRead_loading : s.blockRead x = s.drive x 0 := by
  simp only [State.blockRead, flight_of_inFlight flight]

theorem loadByte_first (b : Byte) :
    s.loadByte x l left next none b = staying s x (.loadMark { l with phase := .block left next (some b) }) call :=
  setFlight_of_flight flight

theorem loadByte_second (more : 2 ≤ left) (hi b : Byte) :
    s.loadByte x l left next (some hi) b =
      staying (s.writeColumn l.slot l.bank next (hi ++ b)) x
        (.loadMark { l with phase := .block (left - 1) (next + 1) none }) call := by
  have here : ((s.writeColumn l.slot l.bank next (hi ++ b)).port x).inFlight = some { kind := .loadMark l, call := call } := by
    cases x <;> exact flight
  exact (if_neg (by omega)).trans (setFlight_of_flight here)

theorem loadByte_last (last : left = 1) (hi b : Byte) :
    s.loadByte x l left next (some hi) b = (s.writeColumn l.slot l.bank next (hi ++ b)).endLoad x l ∧
      ((s.writeColumn l.slot l.bank next (hi ++ b)).port x).inFlight = some { kind := .loadMark l, call := call } := by
  subst last
  refine ⟨rfl, ?_⟩
  cases x <;> exact flight

end

/-- The last column's write and the completion behind it, as one write of the slot (R118). -/
theorem endLoad_writeColumn {l : Load} {call : Bool} (next : Nat) (dots : Dots)
    (flight : ((s.writeColumn l.slot l.bank next dots).port x).inFlight = some { kind := .loadMark l, call := call }) :
    (s.writeColumn l.slot l.bank next dots).endLoad x l =
      finished
        (s.setSlot l.slot
          { s.store[l.slot] with
            banks := s.store[l.slot].banks.set l.bank
              { columns := s.store[l.slot].banks[l.bank].columns.setIfInBounds next dots, count := l.count }
            ready := true })
        x (if l.clamped then .clamped else .done) call := by
  have here : ∀ m : Slot, (((s.writeColumn l.slot l.bank next dots).setSlot l.slot m).port x).inFlight =
      some { kind := .loadMark l, call := call } := fun m => by
    cases x <;> exact flight
  rw [State.endLoad, completeFlight_of_flight (here _)]
  simp [State.writeColumn, State.setSlot]

end

/-- Settles O47: the phase says which byte of a pair the write brings, and whether its column is the last. -/
theorem loadMarkBlockTakesColumnPairs : Obligations.LoadMarkBlockTakesColumnPairs := by
  intro s call l left next first free flight phase small u m k
  have quiet : (s.port .print).held = none := free
  have block : inBlock (s.port .print) = true := inBlock_of_loading (x := .print) flight phase
  have here : (u.port .print).inFlight = some { kind := .loadMark l, call := call } := flight
  refine ⟨fun b i mem => ?_, ?_⟩
  · have write : exec i s = .next (u.loadByte .print l left next first b).settle := by
      have same : exec i s = .next (s.access .print (.dataWrite b)).settle := by
        simp only [List.mem_cons, List.not_mem_nil, or_false] at mem
        obtain rfl | rfl := mem <;> rfl
      rw [same, access_dataWrite_in_block quiet block, ← blockWrite_loading here phase]
      rfl
    rw [write]
    refine ⟨?_, ?_⟩
    · rintro rfl
      rw [loadByte_first here]
    · rintro hi rfl filled written loaded
      refine ⟨fun more => ?_, fun last => ?_⟩
      · rw [loadByte_second here more]
        rfl
      · obtain ⟨ends, still⟩ := loadByte_last here last hi b
        rw [ends, endLoad_writeColumn next (hi ++ b) still]
        rfl
  · have read : exec (.dataRead .print) s = .next (s.access .print .dataRead).settle := rfl
    rw [read, access_dataRead_in_block quiet block]
    exact congrArg (fun t : State => Host.Outcome.next t.settle) (blockRead_loading here)

/-! ### The block reads (R134, R141, R145) -/

section
variable {s : State} {x : PortId} {call : Bool}

theorem snapshotByte_eq (s : State) (k : Fin 32) (pos : Nat) :
    s.snapshotByte k.val pos = BitVec.ofNat 8 (s.snapshot[k] / 256 ^ (3 - pos)) := by
  simp [State.snapshotByte, byte4, byteOf]

theorem blockRead_tallies {left next pos : Nat} {clamped : Bool}
    (flight : (s.port x).inFlight = some { kind := .readTallies left next pos clamped, call := call }) :
    s.blockRead x = (s.drive x (s.snapshotByte next pos)).nextTallyByte x left next pos clamped := by
  simp only [State.blockRead, flight_of_inFlight flight]

theorem blockRead_bytes {b : Byte} {bytes : List Byte}
    (flight : (s.port x).inFlight = some { kind := .readBytes (b :: bytes), call := call }) :
    s.blockRead x = (s.drive x b).nextBlockByte x bytes := by
  simp only [State.blockRead, flight_of_inFlight flight, List.headD_cons, List.tail_cons]

theorem nextTallyByte_within {left next pos : Nat} {clamped : Bool}
    (flight : (s.port x).inFlight = some { kind := .readTallies left next pos clamped, call := call }) (inside : pos ≤ 2) :
    s.nextTallyByte x left next pos clamped = staying s x (.readTallies left next (pos + 1) clamped) call :=
  (if_pos (by omega)).trans (setFlight_of_flight flight)

theorem nextTallyByte_next {left next : Nat} {clamped : Bool}
    (flight : (s.port x).inFlight = some { kind := .readTallies left next 3 clamped, call := call }) (more : 2 ≤ left) :
    s.nextTallyByte x left next 3 clamped = staying s x (.readTallies (left - 1) (next + 1) 0 clamped) call :=
  ((if_neg (by omega)).trans (if_neg (by omega))).trans (setFlight_of_flight flight)

theorem nextTallyByte_last {next : Nat} {clamped : Bool}
    (flight : (s.port x).inFlight = some { kind := .readTallies 1 next 3 clamped, call := call }) :
    s.nextTallyByte x 1 next 3 clamped = finished s x (if clamped then .clamped else .done) call :=
  completeFlight_of_flight flight _

theorem nextBlockByte_more {k : Flight} {bytes : List Byte}
    (flight : (s.port x).inFlight = some { kind := k, call := call }) (more : bytes ≠ []) :
    s.nextBlockByte x bytes = staying s x (.readBytes bytes) call := by
  cases bytes with
  | nil => exact absurd rfl more
  | cons b rest => exact setFlight_of_flight flight

theorem nextBlockByte_last {k : Flight} (flight : (s.port x).inFlight = some { kind := k, call := call }) :
    s.nextBlockByte x [] = finished s x .done call := completeFlight_of_flight flight _

theorem blockWrite_reading {k : Flight} (flight : (s.port x).inFlight = some { kind := k, call := call })
    (other : ∀ l, k ≠ .loadMark l) (b : Byte) : s.blockWrite x b = s := by
  rw [State.blockWrite, flight_of_inFlight flight]
  cases k with
  | loadMark l => exact absurd rfl (other l)
  | _ => rfl

end

/-- Settles O56: the command in flight says which byte comes next, and whether it is the last. -/
theorem blockDataReadsReturnTheBlock : Obligations.BlockDataReadsReturnTheBlock := by
  intro s call free read
  have quiet : (s.port .super).held = none := free
  refine ⟨fun i mem => ?_, fun b i mem busy => ?_⟩
  · have exec_eq (block : inBlock (s.port .super) = true) :
        exec i s = .next ((taken s .super s.portS.ring).blockRead .super).settle := by
      have same : exec i s = .next (s.access .super .dataRead).settle := by
        simp only [List.mem_cons, List.not_mem_nil, or_false] at mem
        obtain rfl | rfl := mem <;> rfl
      rw [same, access_dataRead_in_block quiet block]
      rfl
    refine ⟨?_, fun b bytes flight => ?_⟩
    · intro left pos k clamped flight small b
      have here : ((read b).port .super).inFlight = some { kind := .readTallies left k.val pos clamped, call := call } :=
        flight
      rw [exec_eq (inBlock_of_tallies (x := .super) flight),
        blockRead_tallies (s := taken s .super s.portS.ring) (x := .super) flight, snapshotByte_eq]
      refine ⟨fun inside => ?_, ?_, ?_⟩
      · exact congrArg (fun t : State => Host.Outcome.next t.settle) (nextTallyByte_within here inside)
      · rintro rfl more
        exact congrArg (fun t : State => Host.Outcome.next t.settle) (nextTallyByte_next here more)
      · rintro rfl rfl
        exact congrArg (fun t : State => Host.Outcome.next t.settle) (nextTallyByte_last here)
    · have here : ((read b).port .super).inFlight = some { kind := .readBytes (b :: bytes), call := call } := flight
      rw [exec_eq (inBlock_of_bytes (x := .super) flight),
        blockRead_bytes (s := taken s .super s.portS.ring) (x := .super) flight]
      refine ⟨fun more => ?_, ?_⟩
      · exact congrArg (fun t : State => Host.Outcome.next t.settle) (nextBlockByte_more here more)
      · rintro rfl
        exact congrArg (fun t : State => Host.Outcome.next t.settle) (nextBlockByte_last here)
  · have same : exec i s = .next (s.access .super (.dataWrite b)).settle := by
      simp only [List.mem_cons, List.not_mem_nil, or_false] at mem
      obtain rfl | rfl := mem <;> rfl
    rw [same]
    obtain ⟨left, k, pos, clamped, flight⟩ | ⟨bytes, flight⟩ := busy
    · rw [access_dataWrite_in_block quiet (inBlock_of_tallies (x := .super) flight)]
      exact congrArg (fun t : State => Host.Outcome.next t.settle)
        (blockWrite_reading (s := taken s .super s.portS.ring) (x := .super) flight nofun b)
    · rw [access_dataWrite_in_block quiet (inBlock_of_bytes (x := .super) flight)]
      exact congrArg (fun t : State => Host.Outcome.next t.settle)
        (blockWrite_reading (s := taken s .super s.portS.ring) (x := .super) flight nofun b)

/-! ### The blocks as they are formed (R134, R140, R145) -/

section
variable {s : State} {first count : Byte} {rest : List Byte} (x : PortId) (call : Bool)

theorem cmdReadTallies_bad (bad : 32 ≤ first.toNat) :
    cmdReadTallies x call (taken s x (first :: count :: rest)) =
      finished (taken s x (rest ++ [0, 0])) x .badOperand call := by
  have above : ¬ first.toNat ≤ 31 := by omega
  simp only [cmdReadTallies, operand_taken, dropOperand_dropOperand_taken, above, if_false, complete_eq_finished]

theorem cmdReadTallies_named (named : first.toNat ≤ 31) :
    cmdReadTallies x call (taken s x (first :: count :: rest)) =
      staying (taken s x (rest ++ [0, 0])) x
        (.readTallies (max 1 (min count.toNat (32 - first.toNat))) first.toNat 0
          (max 1 (min count.toNat (32 - first.toNat)) != count.toNat)) call := by
  simp only [cmdReadTallies, operand_taken, second_operand_taken, dropOperand_dropOperand_taken, named, if_true]
  rfl

end

theorem binBytes_eq (s : State) :
    s.binBytes = (List.finRange 7).flatMap fun k =>
      [match s.bins[k].state with | .available => 0 | .full => 1 | .swapping => 2 | .withheld => 3,
        BitVec.ofNat 8 s.bins[k].bound, BitVec.ofNat 8 (s.bins[k].count / 256), BitVec.ofNat 8 s.bins[k].count] := by
  have listed : s.bins.toList = (List.finRange 7).map fun k => s.bins[k] := by
    refine List.ext_getElem (by simp) fun i _ _ => ?_
    simp
  have code (e : BinState) :
      byteOf (binStateCode e) = (match e with | .available => 0 | .full => 1 | .swapping => 2 | .withheld => 3 : Byte) := by
    cases e <;> rfl
  rw [State.binBytes, listed, List.flatMap_map]
  simp only [code]
  rfl

/-- Settles O55: the command's block is formed from the state its take leaves, whose snapshot, ring of entries and bin table
are the state's own. -/
theorem blockReadsFormTheirBlocks : Obligations.BlockReadsFormTheirBlocks := by
  intro s call ready u
  have command (c : Cmd) (listed : allowedAt c .super = true) :
      s.command c .super call = .next (runCmd c .super call u).settle := command_of_ready call ready listed
  refine ⟨?_, command .readThroughput rfl, ?_⟩
  · intro first count rest ring v n
    have taken_eq : exec (.readTallies .super call) s =
        .next (cmdReadTallies .super call (taken s .super (first :: count :: rest))).settle := by
      rw [← ring]
      exact command .readTallies rfl
    rw [taken_eq]
    refine ⟨fun bad => ?_, fun named => ?_⟩
    · rw [cmdReadTallies_bad .super call bad]
    · rw [cmdReadTallies_named .super call named]
  · exact (command .readBins rfl).trans
      (congrArg (fun bytes => Host.Outcome.next (staying u .super (.readBytes bytes) call).settle) (binBytes_eq s))

end Sys2Proof.Proofs
end

section
/-! PROOFS. The parameter table (11.9) and SET PARAMETER (R167, R168). -/

-- The proofs are elaborated one after another: the check gives each thread a large stack within a fixed memory.
set_option Elab.async false

namespace Sys2Proof.Proofs

open Sys2Proof.Machine
open Sys2Proof.Claims

/-! ### Identifiers and ranges (11.9) -/

theorem paramOfNat_of_row {id lo hi dflt : Nat} {p : ParamId} (row : (id, p, lo, hi, dflt) ∈ parameterTable) :
    paramOfNat id = some p := by
  have rows : ∀ row ∈ parameterTable, paramOfNat row.1 = some row.2.1 := by decide
  exact rows _ row

theorem paramOfNat_of_large {id : Nat} (large : 71 ≤ id) : paramOfNat id = none := by
  unfold paramOfNat
  repeat rw [if_neg (by omega)]

theorem row_of_paramOfNat {id : Nat} {p : ParamId} (named : paramOfNat id = some p) :
    ∃ lo hi dflt, (id, p, lo, hi, dflt) ∈ parameterTable := by
  have rows : ∀ n : Fin 71, (paramOfNat n.val).all (fun q =>
      parameterTable.any fun r => r.1 == n.val && r.2.1 == q) = true := by decide
  by_cases small : id < 71
  · have row := rows ⟨id, small⟩
    rw [named] at row
    obtain ⟨⟨n, q, lo, hi, dflt⟩, mem, same⟩ := List.any_eq_true.mp row
    obtain ⟨rfl, rfl⟩ : n = id ∧ q = p := by simpa using same
    exact ⟨lo, hi, dflt, mem⟩
  · rw [paramOfNat_of_large (not_lt.mp small)] at named
    cases named

/-- The range of a parameter after power-on (11.9). -/
def rangeAtReset : ParamId → Nat × Nat
  | .geo g => geoRange g
  | .det k d => detRange (defaultParams.det k) d
  | .mPre => (0, 63)
  | .recovery => (0, 255)
  | .stallLimit => (100, 10000)
  | .interval => (1, 255)
  | .capacity _ => (50, 4000)

/-- An empty bin's capacity is bounded by its range alone (R133). -/
theorem clampCapacity_empty (b : Bin) {e : BinEntry} (count : e.count = 0) (bound : e.bound = 0) (v : Nat) :
    clampCapacity b e v = clamp (50, 4000) v := by
  cases b <;> simp [clampCapacity, count, bound]

theorem clampParam_reset (p : ParamId) (v : Nat) :
    State.reset.clampParam p v = intoRange (rangeAtReset p).1 (rangeAtReset p).2 v := by
  cases p with
  | capacity b => exact clampCapacity_empty b (by rw [reset_bin b]; rfl) (by rw [reset_bin b]; rfl) v
  | _ => rfl

theorem rangeAtReset_of_row {id lo hi dflt : Nat} {p : ParamId} (row : (id, p, lo, hi, dflt) ∈ parameterTable) :
    rangeAtReset p = (lo, hi) := by
  have rows : ∀ row ∈ parameterTable, rangeAtReset row.2.1 = (row.2.2.1, row.2.2.2.1) := by decide
  exact rows _ row

/-- Settles O49: row by row, and an identifier that names a parameter has a row. -/
theorem parametersFollowTheLayoutTable : Obligations.ParametersFollowTheLayoutTable := by
  refine ⟨fun id p lo hi dflt row => ⟨paramOfNat_of_row row, fun v => ?_⟩, fun id free => ?_⟩
  · rw [clampParam_reset, rangeAtReset_of_row row]
  · refine Option.eq_none_iff_forall_ne_some.mpr fun p named => ?_
    obtain ⟨lo, hi, dflt, row⟩ := row_of_paramOfNat named
    exact free p lo hi dflt row

/-! ### SET PARAMETER (R167) -/

section
variable {s : State} {id hi lo : Byte} {rest : List Byte} {x : PortId} (call : Bool)

theorem operand2_taken (s : State) (x : PortId) (m n : Byte) (rest : List Byte) :
    (taken s x (m :: n :: rest)).operand2 x = m.toNat * 256 + n.toNat := by
  rw [State.operand2, operand_taken, second_operand_taken]

theorem cmdSetParameter_unnamed (unnamed : paramOfNat id.toNat = none) :
    cmdSetParameter x call (taken s x (id :: hi :: lo :: rest)) =
      finished (taken s x (rest ++ [0, 0, 0])) x .badOperand call := by
  simp [cmdSetParameter, operand_taken, dropOperand_taken, unnamed, complete_eq_finished]

theorem cmdSetParameter_named {p : ParamId} (named : paramOfNat id.toNat = some p) :
    cmdSetParameter x call (taken s x (id :: hi :: lo :: rest)) =
      (taken s x (rest ++ [0, 0, 0])).setParam x call p (hi.toNat * 256 + lo.toNat) := by
  simp [cmdSetParameter, operand_taken, dropOperand_taken, operand2_taken, named]

theorem exec_setParameter (ready : Ready s x) (other : x ≠ .feed) :
    exec (.setParameter x call) s = .next (cmdSetParameter x call (taken s x (s.port x).ring)).settle :=
  command_of_ready (c := .setParameter) call ready (bne_iff_ne.mpr other)

end

section
variable {s : State} {x : PortId} (call : Bool) {p : ParamId} (v : Nat)

theorem setParam_refused_at_print (print : x = .print) (other : isCancelParam p = false) :
    s.setParam x call p v = finished s x .notPermitted call := if_pos ⟨print, other⟩

theorem setParam_refused_active {g : GeoId} (super : x = .super) (active : ¬ Resting s) :
    s.setParam x call (.geo g) v = finished s x .wrongState call := by
  subst super
  have moving : s.atRest = false := Bool.eq_false_iff.mpr (mt (atRest_iff_resting s).mp active)
  simp [State.setParam, isGeoParam, moving, complete_eq_finished]

theorem setParam_geo {g : GeoId} (super : x = .super) (resting : Resting s) :
    s.setParam x call (.geo g) v =
      if (s.params.geo.set g (clamp (geoRange g) v)).consistent then
        finished { s with params := { s.params with geo := s.params.geo.set g (clamp (geoRange g) v) } } x
          (if clamp (geoRange g) v = v then .done else .clamped) call
      else finished s x .badConfig call := by
  subst super
  simp only [State.setParam, (atRest_iff_resting s).mpr resting, State.clampParam, State.consistentWith, State.writeParam,
    complete_eq_finished, reduceCtorEq, false_and, if_false, Bool.not_true, Bool.and_false, Bool.false_eq_true]
  rfl

/-- Every group but the geometry is stored in every line state, the cancel group at both ports (R16, R109). -/
theorem setParam_other (notGeo : isGeoParam p = false) (allowed : x ≠ .print ∨ isCancelParam p = true) :
    s.setParam x call p v =
      finished (s.writeParam p (s.clampParam p v)) x (if s.clampParam p v = v then .done else .clamped) call := by
  have permitted : ¬ (x = .print ∧ isCancelParam p = false) := fun ⟨print, other⟩ =>
    allowed.elim (absurd print) fun cancel => absurd (cancel.symm.trans other) nofun
  have consistent : s.consistentWith p (s.clampParam p v) = true := by
    cases p with
    | geo g => cases notGeo
    | _ => rfl
  simp only [State.setParam, if_neg permitted, notGeo, Bool.false_and, Bool.false_eq_true, if_false, consistent, if_true,
    complete_eq_finished]

end

theorem taken_params (s : State) (x : PortId) (ring : List Byte) : (taken s x ring).params = s.params := by
  simp [taken]

/-- Settles O50: the table's row gives the range, and the set geometry has the value and every other as it was. -/
theorem setParameterKeepsTheGeometryConsistent : Obligations.SetParameterKeepsTheGeometryConsistent := by
  intro s x call id hi lo rest ready other ring u v
  rw [exec_setParameter call ready other, ring]
  refine ⟨fun free => ?_, ?_⟩
  · have unnamed : paramOfNat id.toNat = none := parametersFollowTheLayoutTable.2 _ free
    rw [cmdSetParameter_unnamed call unnamed]
  · intro g least most dflt row w
    have range : w = clamp (geoRange g) v := by
      rw [← geoRange_of_row row]
      rfl
    have params : u.params = s.params := taken_params s x _
    have rest : Resting u ↔ Resting s := resting_taken_iff s x _
    rw [cmdSetParameter_named call (paramOfNat_of_row row)]
    refine ⟨fun print => ?_, fun super active => ?_, fun super resting => ⟨s.params.geo.set g w, geoValue_set_self _ g w,
      fun i ne => geoValue_set_ne _ w ne, fun consistent => ?_, fun inconsistent => ?_⟩⟩
    · rw [setParam_refused_at_print call _ print rfl]
    · rw [setParam_refused_active call _ super (mt rest.mp active)]
    · have passes : (s.params.geo.set g w).consistent = true := (consistent_iff _).mpr consistent
      rw [setParam_geo call _ super (rest.mpr resting), ← range, params, if_pos passes]
    · have fails : ¬ (s.params.geo.set g w).consistent = true := mt (consistent_iff _).mp inconsistent
      rw [setParam_geo call _ super (rest.mpr resting), ← range, params, if_neg fails]

/-! ### The other groups (R59, R109, R133) -/

theorem setBin_setBin (s : State) (b : Bin) (e f : BinEntry) : (s.setBin b e).setBin b f = s.setBin b f := by
  simp [State.setBin]

theorem setCapacity_eq_withCapacity (s : State) (b : Bin) (v : Nat) : s.setCapacity b v = withCapacity s b v := by
  have entry : (s.setBin b { s.bin b with capacity := v }).bin b = { s.bin b with capacity := v } := setBin_bin_self s b _
  simp only [State.setCapacity, withCapacity, State.enterFull, entry, setBin_setBin]

theorem clampCapacity_eq (b : Bin) (e : BinEntry) (v : Nat) :
    clampCapacity b e v =
      max (intoRange 50 4000 v) (if b = .endTray then min (e.count + e.bound) 4000 else e.count + e.bound) := by
  cases b <;> rfl

/-- Settles O51: the row of the identifier's group; what is stored depends on the parameters and the bin table alone. -/
theorem setParameterStoresTheOtherGroups : Obligations.SetParameterStoresTheOtherGroups := by
  intro s x call id hi lo rest ready other ring u v store
  have params : u.params = s.params := taken_params s x _
  have stores {p : ParamId} (named : paramOfNat id.toNat = some p) (notGeo : isGeoParam p = false)
      (allowed : x ≠ .print ∨ isCancelParam p = true) :
      exec (.setParameter x call) s = .next (finished (u.writeParam p (u.clampParam p v)) x
        (if u.clampParam p v = v then .done else .clamped) call).settle := by
    rw [exec_setParameter call ready other, ring, cmdSetParameter_named call named, setParam_other call _ notGeo allowed]
  refine ⟨fun print p named notPre notRecovery => ?_, fun named => ?_, fun named => ?_, fun super => ?_⟩
  · have group : isCancelParam p = false := by
      cases p with
      | mPre => exact absurd rfl notPre
      | recovery => exact absurd rfl notRecovery
      | _ => rfl
    rw [exec_setParameter call ready other, ring, cmdSetParameter_named call named,
      setParam_refused_at_print call _ print group]
  · rw [stores named rfl (Or.inr rfl), State.writeParam, params]
    rfl
  · rw [stores named rfl (Or.inr rfl), State.writeParam, params]
    rfl
  · have notPrint : x ≠ .print := by rw [super]; decide
    refine ⟨fun named => ?_, fun named => ?_, ?_, fun b named => ?_⟩
    · rw [stores named rfl (Or.inl notPrint), State.writeParam, params]
      rfl
    · rw [stores named rfl (Or.inl notPrint), State.writeParam, params]
      rfl
    · intro k d with_
      have det {i : DetId} (named : paramOfNat id.toNat = some (.det k i)) :
          exec (.setParameter x call) s =
            store (s.params.setDet k (d.set i (clamp (detRange d i) v))) (clamp (detRange d i) v) := by
        rw [stores named rfl (Or.inl notPrint), State.writeParam, State.clampParam, params]
      exact ⟨det, det, det, det, det⟩
    · have entry : u.bin b = s.bin b := taken_bin s x _ b
      have width : u.clampParam (.capacity b) v = max (intoRange 50 4000 v)
          (if b = .endTray then min ((s.bin b).count + (s.bin b).bound) 4000 else (s.bin b).count + (s.bin b).bound) := by
        rw [State.clampParam, entry, clampCapacity_eq]
      rw [stores named rfl (Or.inl notPrint), width, State.writeParam, setCapacity_eq_withCapacity]

end Sys2Proof.Proofs
end

section
/-! PROOFS. The heads at an encoder step (R92 to R95), and a wanted mark (R97 to R100, R113). -/

-- The proofs are elaborated one after another: the check gives each thread a large stack within a fixed memory.
set_option Elab.async false

namespace Sys2Proof.Proofs

open Sys2Proof.Machine
open Sys2Proof.Claims

/-! ### A head at an encoder step (R92 to R95) -/

section
variable {s : State} {h : HeadId}

theorem headDots_eq_dotsOf (s : State) (h : HeadId) (r : Reservation) (k : Nat) :
    headDots h r (s.bank r.slot r.bank) k = dotsOf s h r k := by
  cases h <;> rfl

/-- A head with the column of a reservation's step on its lines (R93). -/
def showing (s : State) (h : HeadId) (d : Head) (r : Reservation) : Head :=
  { d with latch := dotsOf s h r (distance r.first s.pos), strobe := true }

theorem output_eq_showing (s : State) (h : HeadId) (d : Head) (r : Reservation) : s.output h d r = showing s h d r := by
  rw [State.output, headDots_eq_dotsOf, showing]

/-- After a column the head recovers if it was the last, and goes on marking otherwise (R93, R94). -/
def afterColumn (s : State) (r : Reservation) : HeadState := if r.last = s.pos then .recovering else .marking

section
variable {d : Head} {r : Reservation}

theorem fire_empty (empty : d.active = none) : s.fire h d = d := by
  simp only [State.fire, empty]

theorem fire_waits (active : d.active = some r) (waits : ¬ (d.state = .free ∧ r.first = s.pos)) : s.fire h d = d := by
  simp only [State.fire, active, if_neg waits]

theorem fire_begins (active : d.active = some r) (free : d.state = .free) (first : r.first = s.pos)
    (linked : r.linked = true) (uncut : r.cut = false) :
    s.fire h d = { showing s h d r with state := afterColumn s r } := by
  simp only [State.fire, active, free, first, linked, uncut, and_self, if_true, Bool.not_true, Bool.or_self,
    Bool.false_eq_true, if_false, output_eq_showing, afterColumn]
  split <;> rfl

/-- An Active that is cut or unlinked is begun without output (R92). -/
theorem fire_silent (active : d.active = some r) (free : d.state = .free) (first : r.first = s.pos)
    (mute : r.linked = false ∨ r.cut = true) : s.fire h d = { d with state := .recovering } := by
  have silent : (r.cut || !r.linked) = true := by
    rcases mute with unlinked | cut
    · rw [unlinked, Bool.not_false, Bool.or_true]
    · rw [cut, Bool.true_or]
  simp only [State.fire, active, free, first, and_self, if_true, silent]

end

theorem stepHead_empty (empty : (s.head h).active = none) : s.stepHead h = s.setHead h (s.head h).dark := by
  have none : (s.head h).dark.active = Option.none := empty
  simp only [State.stepHead, none]

section
variable {r : Reservation} (active : (s.head h).active = some r)
include active

theorem stepHead_offline (offline : (s.head h).state = .offline) : s.stepHead h = s.setHead h (s.head h).dark := by
  have held : (s.head h).dark.active = some r := active
  have state : (s.head h).dark.state = .offline := offline
  simp only [State.stepHead, held, state]

theorem stepHead_free (free : (s.head h).state = .free) : s.stepHead h = s.setHead h (s.fire h (s.head h).dark) := by
  have held : (s.head h).dark.active = some r := active
  have state : (s.head h).dark.state = .free := free
  simp only [State.stepHead, held, state]

theorem stepHead_marking (marking : (s.head h).state = .marking) :
    s.stepHead h = s.setHead h { showing s h (s.head h) r with state := afterColumn s r } := by
  have held : (s.head h).dark.active = some r := active
  have state : (s.head h).dark.state = .marking := marking
  simp only [State.stepHead, held, state, output_eq_showing, afterColumn]
  split
  · rfl
  · rw [showing, ← marking]
    rfl

theorem stepHead_recovering (recovering : (s.head h).state = .recovering) :
    s.stepHead h =
      if r.free = s.pos then
        (s.countDone r).setHead h ((s.countDone r).fire h { (s.head h).dark.moveUp with state := .free })
      else s.setHead h (s.head h).dark := by
  have held : (s.head h).dark.active = some r := active
  have state : (s.head h).dark.state = .recovering := recovering
  simp only [State.stepHead, held, state]

end

theorem countDone_eq (s : State) (r : Reservation) :
    s.countDone r = if r.cut then s else outcomeOf (s.bump .cancelled) r .done := rfl

theorem countDone_pos (s : State) (r : Reservation) : (s.countDone r).pos = s.pos := countDone_only s r .pos (by simp)

/-- Counting a mark leaves position and mark store, so the next reservation shows the same column. -/
theorem showing_countDone (s : State) (h : HeadId) (d : Head) (r p : Reservation) :
    showing (s.countDone r) h d p = showing s h d p := by
  have store : (s.countDone r).store = s.store := countDone_only s r .store (by simp)
  have dots (k : Nat) : dotsOf (s.countDone r) h p k = dotsOf s h p k := by
    unfold dotsOf
    rw [store]
  rw [showing, showing, dots, countDone_pos]

theorem distance_self (p : Pos) : distance p p = 0 := by simp [distance]

/-- A head whose Active has ended, the Pending moved up (R95). -/
theorem dark_moveUp (d : Head) : { d.dark.moveUp with state := .free } = { bare .free with active := d.pending } := rfl

end

/-- Settles O39: by the head's state and slots; a head that ends its Active begins the Pending as a FREE one does. -/
theorem headStepsThroughItsSchedule : Obligations.HeadStepsThroughItsSchedule := by
  intro s h d dark
  refine ⟨fun idle => ?_, ?_⟩
  · cases active : d.active with
    | none => exact stepHead_empty active
    | some r => exact stepHead_offline active (idle.resolve_right (by rw [active]; exact nofun))
  · intro r active column
    have held : (s.head h).dark.active = some r := active
    refine ⟨fun free other => ?_, fun free first linked uncut => ?_, fun free first mute => ?_, stepHead_marking active,
      fun recovering other => ?_, ?_⟩
    · rw [stepHead_free active free, fire_waits held fun now => other now.2]
      rfl
    · rw [stepHead_free active free, fire_begins held free first linked uncut]
      rfl
    · rw [stepHead_free active free, fire_silent held free first mute]
      rfl
    · rw [stepHead_recovering active recovering, if_neg other]
      rfl
    · intro recovering ends v
      have step : s.stepHead h = v.setHead h (v.fire h { bare .free with active := d.pending }) := by
        rw [stepHead_recovering active recovering, if_pos ends, dark_moveUp, countDone_eq]
      have pos : v.pos = s.pos := countDone_pos s r
      refine ⟨fun empty => ?_, fun p pending => ?_⟩
      · rw [step, empty, fire_empty rfl]
        rfl
      · rw [step, pending]
        refine ⟨fun other => ?_, fun first linked uncut => ?_, fun first mute => ?_⟩
        · rw [fire_waits rfl fun now => other (now.2.trans pos)]
        · have shows := showing_countDone s h { bare .free with active := some p } r p
          rw [fire_begins rfl rfl (first.trans pos.symm) linked uncut, show v = s.countDone r from rfl, shows, showing,
            afterColumn, countDone_pos, first, distance_self]
          rfl
        · rw [fire_silent rfl rfl (first.trans pos.symm) mute]
          rfl

/-! ### A wanted mark (R97 to R100, R113) -/

/-- The state with the shadow of a request's slot adopted (R113). -/
def adopted (s : State) (n : Fin 4) : State := s.setSlot n s.store[n].adopt

/-- The columns of the bank a request is placed from (R98). -/
def columnsOf (s : State) (n : Fin 4) : Nat := s.store[n].adopt.banks[s.store[n].adopt.live].count

section
variable {s : State} {q : MarkRequest}

theorem adopted_head (s : State) (n : Fin 4) (h : HeadId) : (adopted s n).head h = s.head h := State.setSlot_head s n _ h

theorem requestMark_eq (s : State) (q : MarkRequest) :
    s.requestMark q =
      let v := adopted s q.slot
      if (s.head (headFor q.facing)).state = .offline then v.giveUp q.tag .offline
      else if columnsOf s q.slot = 0 then (v.giveUp q.tag .noMark).raise .print .noMark
      else
        match placeMark s.params q s.store[q.slot].adopt.live (columnsOf s q.slot) with
        | none => (v.giveUp q.tag .noMark).raise .print .noMark
        | some r => v.scheduleMark (headFor q.facing) q.tag r := by
  simp only [State.requestMark, adopted, State.bank, State.setSlot_slot, State.setSlot_head, State.setSlot_params,
    columnsOf]
  rfl

theorem requestMark_offline (offline : (s.head (headFor q.facing)).state = .offline) :
    s.requestMark q = (adopted s q.slot).giveUp q.tag .offline := by
  rw [requestMark_eq]
  exact if_pos offline

section
variable (online : (s.head (headFor q.facing)).state ≠ .offline)
include online

theorem requestMark_noMark
    (unplaced : columnsOf s q.slot = 0 ∨
      placeMark s.params q s.store[q.slot].adopt.live (columnsOf s q.slot) = none) :
    s.requestMark q = ((adopted s q.slot).giveUp q.tag .noMark).raise .print .noMark := by
  rw [requestMark_eq]
  refine (if_neg online).trans ?_
  by_cases empty : columnsOf s q.slot = 0
  · exact if_pos empty
  · refine (if_neg empty).trans ?_
    rw [unplaced.resolve_left empty]

theorem requestMark_placed {r : Reservation} (some : columnsOf s q.slot ≠ 0)
    (placed : placeMark s.params q s.store[q.slot].adopt.live (columnsOf s q.slot) = .some r) :
    s.requestMark q = (adopted s q.slot).scheduleMark (headFor q.facing) q.tag r := by
  rw [requestMark_eq]
  refine (if_neg online).trans ((if_neg some).trans ?_)
  rw [placed]

end

end

theorem clippedSpan_of_empty {nominal : Int} {cols lp : Nat}
    (empty : min (nominal + cols - 1) ((lp : Int) - 1) < max nominal 0) : clippedSpan nominal cols lp = none := if_pos empty

theorem clippedSpan_of_columns {nominal : Int} {cols lp : Nat}
    (columns : max nominal 0 ≤ min (nominal + cols - 1) ((lp : Int) - 1)) :
    clippedSpan nominal cols lp =
      some ((max nominal 0).toNat, (min (nominal + cols - 1) ((lp : Int) - 1)).toNat, (max nominal 0 - nominal).toNat) :=
  if_neg columns.not_gt

section
variable {s : State} {h : HeadId} {r : Reservation} (t : Tag)

theorem scheduleMark_active (active : (s.head h).active = none) (pending : (s.head h).pending = none) :
    s.scheduleMark h t r = (s.setHead h { s.head h with active := some r }).setMark t (.scheduled h) := by
  have takes : (s.head h).refuses r = false := by simp [Head.refuses, Head.latest, active, pending]
  simp [State.scheduleMark, takes, Head.accept, active]

theorem scheduleMark_pending {a : Reservation} (active : (s.head h).active = some a) (pending : (s.head h).pending = none)
    (behind : isBefore r.first a.free = false) :
    s.scheduleMark h t r = (s.setHead h { s.head h with pending := some r }).setMark t (.scheduled h) := by
  have takes : (s.head h).refuses r = false := by simp [Head.refuses, Head.latest, active, pending, behind]
  simp [State.scheduleMark, takes, Head.accept, active]

theorem scheduleMark_refused {a : Reservation} (active : (s.head h).active = some a)
    (conflict : (s.head h).pending ≠ none ∨ isBefore r.first a.free = true) : s.scheduleMark h t r = s.conflictMark t := by
  have refuses : (s.head h).refuses r = true := by
    cases pending : (s.head h).pending with
    | none =>
      have early := conflict.resolve_left (absurd pending)
      simp [Head.refuses, Head.latest, active, pending, early]
    | some p => simp [Head.refuses, active, pending]
  simp [State.scheduleMark, refuses]

end

/-- Settles O40: the five steps of R97 on the state with the shadow adopted, whose heads and parameters are the state's. -/
theorem wantedMarkIsPlacedAndScheduled : Obligations.WantedMarkIsPlacedAndScheduled := by
  intro s q h m m' v cols nominal first lastc lastPos r d
  have head : h = headFor q.facing := by
    cases facing : q.facing <;> simp [h, facing, headFor]
  have start : nominal = nominalStart (headFor q.facing) q.start q.last cols s.params.mPre := by
    cases facing : q.facing <;> simp [nominal, facing, headFor, nominalStart]
  have state : (adopted s q.slot).head h = d := adopted_head s q.slot h
  rw [show s.head h = d from rfl]
  refine ⟨fun offline => ?_, fun online unplaced => ?_, fun online some fits => ?_⟩
  · exact requestMark_offline (head ▸ offline)
  · refine requestMark_noMark (head ▸ online) (unplaced.imp_right fun empty => ?_)
    have none : placeMark s.params q m'.live cols = .none := by
      rw [placeMark, ← start, clippedSpan_of_empty empty]
      rfl
    exact none
  · have placed : placeMark s.params q m'.live cols = .some r := by
      rw [placeMark, ← start, clippedSpan_of_columns fits]
      rfl
    rw [requestMark_placed (head ▸ online) some placed, ← head]
    refine ⟨fun active pending => ?_, fun a active pending behind => ?_, fun a active conflict => ?_⟩
    · rw [scheduleMark_active q.tag (state ▸ active) (state ▸ pending), state]
      rfl
    · rw [scheduleMark_pending q.tag (state ▸ active) (state ▸ pending) behind, state]
      rfl
    · rw [scheduleMark_refused q.tag (state ▸ active) (state ▸ conflict)]
      rfl

end Sys2Proof.Proofs
end

section
/-! PROOFS. States through their parts; the record a lead edge is matched to (R6, R7), and the edge that starts a read (R61). -/

-- The proofs are elaborated one after another: the check gives each thread a large stack within a fixed memory.
set_option Elab.async false

namespace Sys2Proof.Proofs

open Sys2Proof.Machine
open Sys2Proof.Claims

/-! ### A state from the parts an event has changed -/

theorem eq_of_only {fs : List Part} {s t u : State} (st : Only fs s t) (su : Only fs s u)
    (agree : ∀ p ∈ fs, p.Same u t) : t = u :=
  eq_of_parts fun p => by
    by_cases changed : p ∈ fs
    · exact agree p changed
    · have before : p.Same s u := su p changed
      have after : p.Same s t := st p changed
      cases p <;> exact Eq.trans after (Eq.symm before)

/-- The parts the blocks of the transport may change; a port only in its notices. -/
abbrev beltParts : List Part :=
  [.pos, .gap, .stallTimer, .line, .head .high, .head .low, .release, .track, .tags, .routes, .stages, .read, .training,
    .baselines, .lastRes, .gateOut, .gates, .bins, .store, .live, .iOcc, .rOcc, .flags .feed, .flags .print, .flags .super]

/-- A state as another with the parts the transport may change taken over. -/
def onBelt (s t : State) : State :=
  { s with
    pos := t.pos, gap := t.gap, stallTimer := t.stallTimer, line := t.line, headHigh := t.headHigh, headLow := t.headLow
    release := t.release, track := t.track, read := t.read, training := t.training, baselines := t.baselines
    lastRes := t.lastRes, gateOut := t.gateOut, gates := t.gates, bins := t.bins, store := t.store, live := t.live
    iOcc := t.iOcc, rOcc := t.rOcc, portF := flagged s.portF t.portF.flags, portP := flagged s.portP t.portP.flags
    portS := flagged s.portS t.portS.flags }

theorem onBelt_only (s t : State) : Only beltParts s (onBelt s t) := by
  intro p absent
  cases p
  case head h => cases h <;> simp at absent
  case flags x => cases x <;> simp at absent
  case ring x | flight x | code x | xdone x | xcall x | mask x | held x | out x => cases x <;> rfl
  all_goals simp_all [Part.Same, onBelt]

theorem onBelt_agrees (s t : State) : ∀ p ∈ beltParts, p.Same (onBelt s t) t := by
  simp only [List.forall_mem_cons]
  refine ⟨?_, ?_, ?_, ?_, ?_, ?_, ?_, ?_, ?_, ?_, ?_, ?_, ?_, ?_, ?_, ?_, ?_, ?_, ?_, ?_, ?_, ?_, ?_, ?_, ?_,
    fun _ mem => absurd mem List.not_mem_nil⟩ <;> rfl

theorem eq_onBelt {fs : List Part} {s t : State} (only : Only fs s t) (sub : ∀ p ∈ fs, p ∈ beltParts := by simp) :
    t = onBelt s t :=
  eq_of_only (only.mono sub) (onBelt_only s t) (onBelt_agrees s t)

section
variable {fs : List Part} {s t : State} (only : Only fs s t)
include only

theorem Only.pos_eq (absent : .pos ∉ fs := by simp) : t.pos = s.pos := only .pos absent

theorem Only.gap_eq (absent : .gap ∉ fs := by simp) : t.gap = s.gap := only .gap absent

theorem Only.timer_eq (absent : .stallTimer ∉ fs := by simp) : t.stallTimer = s.stallTimer := only .stallTimer absent

theorem Only.training_eq (absent : .training ∉ fs := by simp) : t.training = s.training := only .training absent

theorem Only.baselines_eq (absent : .baselines ∉ fs := by simp) : t.baselines = s.baselines := only .baselines absent

theorem Only.lastRes_eq (absent : .lastRes ∉ fs := by simp) : t.lastRes = s.lastRes := only .lastRes absent

theorem Only.gateOut_eq (absent : .gateOut ∉ fs := by simp) : t.gateOut = s.gateOut := only .gateOut absent

theorem Only.store_eq (absent : .store ∉ fs := by simp) : t.store = s.store := only .store absent

theorem Only.params_eq (absent : .params ∉ fs := by simp) : t.params = s.params := only .params absent

theorem Only.iOcc_eq (absent : .iOcc ∉ fs := by simp) : t.iOcc = s.iOcc := only .iOcc absent

theorem Only.rOcc_eq (absent : .rOcc ∉ fs := by simp) : t.rOcc = s.rOcc := only .rOcc absent

theorem Only.headHigh_eq (absent : .head .high ∉ fs := by simp) : t.headHigh = s.headHigh := only (.head .high) absent

theorem Only.headLow_eq (absent : .head .low ∉ fs := by simp) : t.headLow = s.headLow := only (.head .low) absent

theorem Only.feedFlags_eq (absent : .flags .feed ∉ fs := by simp) : t.portF.flags = s.portF.flags :=
  only (.flags .feed) absent

theorem Only.printFlags_eq (absent : .flags .print ∉ fs := by simp) : t.portP.flags = s.portP.flags :=
  only (.flags .print) absent

end

theorem Ledger.quiet_flags {vs : List Tally} {s t : State} (told : Ledger vs 0 s t) :
    t.portS.flags = s.portS.flags ||| saturation s t := by
  simpa using told.flags

/-! ### One record of the track -/

/-- No record of the lists carries the tag. -/
def Apart (t : Tag) (older younger : List Record) : Prop := (∀ q ∈ older, q.tag ≠ t) ∧ ∀ q ∈ younger, q.tag ≠ t

theorem apart_of_distinct {older younger : List Record} {r : Record}
    (distinct : ((older ++ r :: younger).map fun q => q.tag).Nodup) : Apart r.tag older younger := by
  rw [List.map_append, List.map_cons, List.nodup_append] at distinct
  obtain ⟨-, behind, across⟩ := distinct
  refine ⟨fun q mem => ?_, fun q mem same => ?_⟩
  · exact across q.tag (List.mem_map_of_mem mem) r.tag List.mem_cons_self
  · exact (List.nodup_cons.mp behind).1 (same ▸ List.mem_map_of_mem mem)

section
variable {t : Tag} {older younger : List Record} (apart : Apart t older younger)
include apart

theorem map_at {f : Record → Record} {r : Record} (others : ∀ q, q.tag ≠ t → f q = q) :
    (older ++ r :: younger).map f = older ++ f r :: younger := by
  rw [List.map_append, List.map_cons, List.map_congr_left fun q mem => others q (apart.1 q mem),
    List.map_congr_left fun q mem => others q (apart.2 q mem), List.map_id', List.map_id']

theorem updTrack_at (f : Record → Record) {r : Record} (tag : r.tag = t) :
    updTrack t f (older ++ r :: younger) = older ++ f r :: younger := by
  rw [updTrack_eq_map, map_at apart fun q other => if_neg other, if_pos tag]

theorem updRec_at {s : State} {r : Record} (track : s.track = older ++ r :: younger) (f : Record → Record)
    (tag : r.tag = t) : (s.updRec t f).track = older ++ f r :: younger := by
  rw [State.updRec, track, updTrack_at apart f tag]

theorem findRec_at {s : State} {r : Record} (track : s.track = older ++ r :: younger) (tag : r.tag = t) :
    s.findRec t = some r := by
  have absent : older.find? (fun q => q.tag == t) = none :=
    List.find?_eq_none.mpr fun q mem => by simpa using apart.1 q mem
  rw [State.findRec, track, List.find?_append, absent, Option.none_or, List.find?_cons_of_pos (by simpa using tag)]

theorem filter_at {r : Record} (tag : r.tag = t) :
    (older ++ r :: younger).filter (fun q => q.tag != t) = older ++ younger := by
  have kept (l : List Record) (free : ∀ q ∈ l, q.tag ≠ t) : l.filter (fun q => q.tag != t) = l :=
    List.filter_eq_self.mpr fun q mem => bne_iff_ne.mpr (free q mem)
  rw [List.filter_append, List.filter_cons_of_neg (by simpa using tag), kept older apart.1, kept younger apart.2]

end

/-! ### The record of a lead edge (R6, R7) -/

section
variable {s : State} {x : Cell} {older younger : List Record} {r : Record}

theorem oldestAt_eq (track : s.track = older ++ r :: younger) (first : ∀ q ∈ older, q.next ≠ some x)
    (next : r.next = some x) : s.oldestAt x = some r := by
  have absent : older.find? (fun q => q.next == some x) = none :=
    List.find?_eq_none.mpr fun q mem => by simpa using first q mem
  rw [State.oldestAt, track, List.find?_append, absent, Option.none_or, List.find?_cons_of_pos (by simpa using next)]

theorem judgeLead_elsewhere (moving : Moving s) (notI : x ≠ .i) : s.judgeLead x = s.matchEdge x := by
  obtain line | line := moving <;> simp only [State.judgeLead, line, if_neg notI]

/-- A lead edge at or after the oldest expecting record's window begins is that record's (R6). -/
theorem lead_matched (moving : Moving s) (notI : x ≠ .i) (was : s.level x = .clear)
    (track : s.track = older ++ r :: younger) (first : ∀ q ∈ older, q.next ≠ some x) (next : r.next = some x)
    (begun : atOrAfter s.pos (r.anchor + BitVec.ofNat 16 (cellPosition s.params.geo x) -
      BitVec.ofNat 16 s.params.geo.tol) = true) :
    s.lead x = (seen s x .blocked).matched x r := by
  have oldest : (seen s x .blocked).oldestAt x = some r := oldestAt_eq (s := seen s x .blocked) track first next
  rw [lead_of_clear was, judgeLead_elsewhere (s := seen s x .blocked) moving notI]
  simp only [State.matchEdge, oldest]
  exact if_pos begun

theorem matched_pass (noBin : cellBin x = none) :
    s.matched x r =
      if x = .r then
        ((s.reAnchor r (cellPosition s.params.geo x)).updRec r.tag fun q => { q with next := nextCheckpoint x r }).startRead
          r.tag
      else (s.reAnchor r (cellPosition s.params.geo x)).updRec r.tag fun q => { q with next := nextCheckpoint x r } := by
  simp only [State.matched, noBin]

/-- An anchor that does not move: no re-anchor (R8). -/
theorem reAnchor_same {n : Nat} (same : s.pos - BitVec.ofNat 16 n = r.anchor) : s.reAnchor r n = s :=
  if_pos (by rw [posMinus, same]; exact BitVec.sub_self _)

theorem reAnchor_moved {n : Nat} (moved : s.pos - BitVec.ofNat 16 n ≠ r.anchor) :
    s.reAnchor r n =
      (((((s.bump .reAnchors).updRec r.tag fun q => { q with anchor := s.pos - BitVec.ofNat 16 n }).moveFlip r
        (s.pos - BitVec.ofNat 16 n - r.anchor)).moveGateWindow r (s.pos - BitVec.ofNat 16 n - r.anchor)).moveMark r
          (s.pos - BitVec.ofNat 16 n - r.anchor)) := by
  refine if_neg fun zero => moved ?_
  rw [posMinus] at zero
  exact eq_of_sub_eq_zero zero

/-- A record without a plan has nothing that moves with its anchor. -/
theorem reAnchor_unplanned {n : Nat} (moved : s.pos - BitVec.ofNat 16 n ≠ r.anchor) (gate : r.gate = none)
    (bin : r.bin = none) (mark : r.mark = none) :
    s.reAnchor r n = (s.bump .reAnchors).updRec r.tag fun q => { q with anchor := s.pos - BitVec.ofNat 16 n } := by
  rw [reAnchor_moved moved]
  simp only [State.moveFlip, State.moveGateWindow, State.moveMark, gate, bin, mark]

end

/-! ### The read start (R61) -/

/-- What a re-anchor of an unplanned record leaves. -/
theorem reAnchor_unplanned_parts {s : State} {older younger : List Record} {r : Record} (n : Nat)
    (apart : Apart r.tag older younger) (track : s.track = older ++ r :: younger) (gate : r.gate = none)
    (bin : r.bin = none) (mark : r.mark = none) :
    let a := s.pos - BitVec.ofNat 16 n
    let u := s.reAnchor r n
    Only (.track :: countParts) s u ∧ Ledger [.reAnchors] 0 s u ∧
      u.track = older ++ { r with anchor := a } :: younger ∧
      u.tally .reAnchors = if a = r.anchor then s.tally .reAnchors else raised s .reAnchors 1 := by
  intro a u
  by_cases same : a = r.anchor
  · have still : u = s := reAnchor_same same
    rw [still, if_pos same, same]
    exact ⟨Only.refl _ s, Ledger.refl _ s, track, rfl⟩
  · have moved : u = (s.bump .reAnchors).updRec r.tag fun q => { q with anchor := a } :=
      reAnchor_unplanned same gate bin mark
    have only := updRec_only (s.bump .reAnchors) [.track] r.tag fun q => { q with anchor := a }
    have before : (s.bump .reAnchors).track = older ++ r :: younger :=
      (show (s.bump .reAnchors).track = s.track from (bump_only s .reAnchors).track_eq).trans track
    rw [moved, if_neg same]
    exact ⟨((bump_only s .reAnchors).trans only).within, ((bump_ledger s .reAnchors).trans only.ledger).within,
      updRec_at apart before _ rfl, bump_tally_self s .reAnchors⟩

/-- The set latched at a matched edge at R is that of the parameters in force (R60). -/
theorem latch_of_params {s t : State} (params : t.params = s.params) : t.latch = s.latch := by
  rw [State.latch, State.latch, params]

/-- Settles O29: a record that expects R has no plan, so the edge moves its anchor alone and starts its read. -/
theorem matchedEdgeAtRStartsTheRead : Obligations.MatchedEdgeAtRStartsTheRead := by
  intro s older younger r moving was sound track first next begun gate bin mark a
  have apart : Apart r.tag older younger := apart_of_distinct (track ▸ sound.distinct)
  obtain ⟨v, anchors⟩ : ∃ v, v = (seen s .r .blocked).reAnchor r s.params.geo.pR := ⟨_, rfl⟩
  obtain ⟨w, advances⟩ : ∃ w, w = v.updRec r.tag fun q => { q with next := nextCheckpoint .r r } := ⟨_, rfl⟩
  obtain ⟨u, starts⟩ : ∃ u, u = w.startRead r.tag := ⟨_, rfl⟩
  have parts := reAnchor_unplanned_parts (s := seen s .r .blocked) s.params.geo.pR apart track gate bin mark
  rw [← anchors] at parts
  obtain ⟨anchored, ledger, moved, counted⟩ := parts
  have advanced : Only [.track, .routes, .stages] v w := advances ▸ updRec_only v _ r.tag _
  have started := startRead_only w r.tag
  rw [← starts] at started
  have only : Only (.read :: .rOcc :: .routes :: .stages :: .track :: countParts) (seen s .r .blocked) u :=
    ((anchored.trans advanced).trans started).within
  have told : Ledger [.reAnchors] 0 (seen s .r .blocked) u := ((ledger.trans advanced.ledger).trans started.ledger).within
  have edge : s.lead .r = u := by
    rw [lead_matched moving (by decide) was track first next begun, matched_pass rfl, if_pos rfl, starts, advances, anchors]
    rfl
  have tracked : u.track = older ++ { r with anchor := a, stage := .reading, next := some .t } :: younger := by
    have led : w.track = older ++ { r with anchor := a, next := some .t } :: younger := by
      rw [advances]
      exact updRec_at apart moved _ rfl
    rw [starts, State.startRead, led]
    exact updTrack_at apart _ rfl
  have latch : w.latch = s.latch := latch_of_params (anchored.trans advanced).params_eq
  have read : u.read = .sampling { tag := r.tag, latched := s.latch, count := 0 } (Vector.replicate 8 freshChannel) := by
    rw [starts, State.startRead, latch]
  have occupant : u.rOcc = some r.tag := by rw [starts, State.startRead]
  have flags : u.portS.flags = s.portS.flags ||| saturation s u := told.quiet_flags
  refine ⟨u, congrArg (fun t : State => Host.Outcome.next t.settle) edge, ?_, ?_, fun v other => ?_, ?_⟩
  · refine (eq_onBelt only).trans ?_
    simp only [onBelt, only.pos_eq, only.gap_eq, only.timer_eq, only.line_eq, only.headHigh_eq, only.headLow_eq,
      only.release_eq, only.training_eq, only.baselines_eq, only.lastRes_eq, only.gateOut_eq, only.gates_eq, only.bins_eq,
      only.store_eq, only.iOcc_eq, only.feedFlags_eq, only.printFlags_eq, tracked, read, occupant, flags]
    rfl
  · have kept : u.tally .reAnchors = v.tally .reAnchors := (advanced.ledger.trans started.ledger).others .reAnchors (by simp)
    rw [kept, counted]
    rfl
  · exact told.others v (by simpa using other)
  · exact completes_of_undone (undone_of_only ((setLevel_only s .r .blocked).trans only))

end Sys2Proof.Proofs
end

section
/-! PROOFS. The flip gate window at a re-anchor (R9, R86, R87). -/

-- The proofs are elaborated one after another: the check gives each thread a large stack within a fixed memory.
set_option Elab.async false

namespace Sys2Proof.Proofs

open Sys2Proof.Machine
open Sys2Proof.Claims

/-! ### Positions around a fixed one -/

theorem isAfter_iff (b a : Pos) : isAfter b a = true ↔ 1 ≤ distance a b ∧ distance a b ≤ 32767 := by
  rw [isAfter, Bool.and_eq_true, decide_eq_true_iff, decide_eq_true_iff]

/-- Ahead of `o`, the later of two positions is the one further away. -/
theorem atOrAfter_ahead {o x y : Pos} (ahead : distance o x ≤ 32767) (reach : distance o y ≤ 32767) :
    atOrAfter x y = true ↔ distance o y ≤ distance o x := by
  rw [atOrAfter_iff]
  unfold distance at *
  bv_omega

/-- Behind `o`, the later of two positions is the nearer one. -/
theorem atOrAfter_behind {o x y : Pos} (behind : distance x o ≤ 32767) (reach : distance y o ≤ 32768)
    (apart : 1 ≤ distance x o ∨ distance y o ≤ 32767) : atOrAfter x y = true ↔ distance x o ≤ distance y o := by
  rw [atOrAfter_iff]
  unfold distance at *
  bv_omega

theorem distance_sub_one {o f : Pos} (after : 1 ≤ distance o f) : distance o (f - 1) = distance o f - 1 := by
  unfold distance at *
  bv_omega

theorem distance_add_one {o q : Pos} (before : 1 ≤ distance q o) : distance (q + 1) o = distance q o - 1 := by
  unfold distance at *
  bv_omega

theorem toInt_neg_iff_msb (d : Pos) : d.toInt < 0 ↔ d.msb = true := by
  rw [BitVec.msb_eq_toInt, decide_eq_true_iff]

theorem distance_later {old d : Pos} (later : d.msb = false) : distance old (old + d) ≤ 32767 := by
  rw [BitVec.msb_eq_decide, decide_eq_false_iff_not] at later
  unfold distance
  bv_omega

theorem distance_earlier {old d : Pos} (earlier : d.msb = true) : distance (old + d) old ≤ 32768 := by
  rw [BitVec.msb_eq_decide, decide_eq_true_iff] at earlier
  unfold distance
  bv_omega

/-! ### Limits (R87) -/

/-- What a limit of a moved to does: it stops before the nearest from it would reach. -/
theorem limitTo_spec (old : Pos) (ws : List Window) (new : Pos) (ahead : distance old new ≤ 32767) :
    (limitTo old new ws = new ∨
        ∃ w ∈ ws, isAfter w.fromPos old = true ∧ atOrAfter new w.fromPos = true ∧ limitTo old new ws = w.fromPos - 1) ∧
      distance old (limitTo old new ws) ≤ distance old new ∧
      ∀ w ∈ ws, isAfter w.fromPos old = true → atOrAfter new w.fromPos = true →
        distance old (limitTo old new ws) + 1 ≤ distance old w.fromPos := by
  induction ws generalizing new with
  | nil => exact ⟨Or.inl rfl, le_rfl, nofun⟩
  | cons w ws ih =>
    by_cases reached : isAfter w.fromPos old = true ∧ atOrAfter new w.fromPos = true
    · obtain ⟨after, reaches⟩ := reached
      have cut : limitTo old new (w :: ws) = limitTo old (w.fromPos - 1) ws := by
        simp [limitTo, after, reaches]
      obtain ⟨positive, near⟩ := (isAfter_iff _ _).mp after
      have beyond := (atOrAfter_ahead ahead near).mp reaches
      have before := distance_sub_one positive
      obtain ⟨found, within, others⟩ := ih (w.fromPos - 1) (by omega)
      rw [cut]
      refine ⟨Or.inr ?_, by omega, fun v mem later reached => ?_⟩
      · obtain same | ⟨v, mem, later, reached, here⟩ := found
        · exact ⟨w, List.mem_cons_self, after, reaches, same⟩
        · have far := ((isAfter_iff _ _).mp later).2
          have short := (atOrAfter_ahead (by omega) far).mp reached
          exact ⟨v, List.mem_cons_of_mem _ mem, later, (atOrAfter_ahead ahead far).mpr (by omega), here⟩
      · obtain rfl | mem := List.mem_cons.mp mem
        · omega
        · by_cases still : atOrAfter (w.fromPos - 1) v.fromPos = true
          · exact others v mem later still
          · have far := ((isAfter_iff _ _).mp later).2
            rw [atOrAfter_ahead (o := old) (by omega) far] at still
            omega
    · have kept : limitTo old new (w :: ws) = limitTo old new ws := by
        simp only [limitTo, List.foldl_cons]
        rw [if_neg fun both => reached ((Bool.and_eq_true_iff.mp both).symm)]
      obtain ⟨found, within, others⟩ := ih new ahead
      rw [kept]
      refine ⟨found.imp_right fun ⟨v, mem, rest⟩ => ⟨v, List.mem_cons_of_mem _ mem, rest⟩, within,
        fun v mem later reaches => ?_⟩
      obtain rfl | mem := List.mem_cons.mp mem
      · exact absurd ⟨later, reaches⟩ reached
      · exact others v mem later reaches

/-- What a limit of a moved from does: it stops after the nearest to it would reach. -/
theorem limitFrom_spec (old : Pos) (ws : List Window) (new : Pos) (behind : distance new old ≤ 32768) :
    (limitFrom old new ws = new ∨
        ∃ w ∈ ws, ∃ q, w.toPos = some q ∧ isAfter old q = true ∧ atOrAfter q new = true ∧ limitFrom old new ws = q + 1) ∧
      distance (limitFrom old new ws) old ≤ distance new old ∧
      ∀ w ∈ ws, ∀ q, w.toPos = some q → isAfter old q = true → atOrAfter q new = true →
        distance (limitFrom old new ws) old + 1 ≤ distance q old := by
  induction ws generalizing new with
  | nil => exact ⟨Or.inl rfl, le_rfl, nofun⟩
  | cons w ws ih =>
    by_cases reached : ∃ q, w.toPos = some q ∧ isAfter old q = true ∧ atOrAfter q new = true
    · obtain ⟨q, to_, after, reaches⟩ := reached
      have cut : limitFrom old new (w :: ws) = limitFrom old (q + 1) ws := by
        simp [limitFrom, to_, isBefore, after, reaches]
      obtain ⟨positive, near⟩ := (isAfter_iff _ _).mp after
      have beyond := (atOrAfter_behind near behind (Or.inl positive)).mp reaches
      have before := distance_add_one positive
      obtain ⟨found, within, others⟩ := ih (q + 1) (by omega)
      rw [cut]
      refine ⟨Or.inr ?_, by omega, fun v mem p ends later reached => ?_⟩
      · obtain same | ⟨v, mem, p, ends, later, reached, here⟩ := found
        · exact ⟨w, List.mem_cons_self, q, to_, after, reaches, same⟩
        · obtain ⟨past, far⟩ := (isAfter_iff _ _).mp later
          have short := (atOrAfter_behind (o := old) far (by omega) (Or.inl past)).mp reached
          exact ⟨v, List.mem_cons_of_mem _ mem, p, ends, later, (atOrAfter_behind far behind (Or.inl past)).mpr (by omega),
            here⟩
      · obtain rfl | mem := List.mem_cons.mp mem
        · obtain rfl : q = p := Option.some.inj (to_.symm.trans ends)
          omega
        · by_cases still : atOrAfter p (q + 1) = true
          · exact others v mem p ends later still
          · obtain ⟨past, far⟩ := (isAfter_iff _ _).mp later
            rw [atOrAfter_behind (o := old) far (by omega) (Or.inl past)] at still
            omega
    · have kept : limitFrom old new (w :: ws) = limitFrom old new ws := by
        simp only [limitFrom, List.foldl_cons]
        cases ends : w.toPos with
        | none => rfl
        | some q =>
          have other : ¬ (atOrAfter q new && isBefore q old) = true := fun both =>
            reached ⟨q, ends, (Bool.and_eq_true_iff.mp both).symm⟩
          simp only [if_neg other]
      obtain ⟨found, within, others⟩ := ih new behind
      rw [kept]
      refine ⟨found.imp_right fun ⟨v, mem, rest⟩ => ⟨v, List.mem_cons_of_mem _ mem, rest⟩, within,
        fun v mem q ends later reaches => ?_⟩
      obtain rfl | mem := List.mem_cons.mp mem
      · exact absurd ⟨q, ends, later, reaches⟩ reached
      · exact others v mem q ends later reaches

theorem moveTo_spec (old d : Pos) (ws : List Window) :
    ToMoved old d (moveTo old d ws) fun f => ∃ w, w ∈ ws ∧ w.fromPos = f := by
  refine ⟨fun earlier => if_pos ((toInt_neg_iff_msb d).mp earlier), fun later => ?_⟩
  have ahead : d.msb = false := Bool.eq_false_iff.mpr fun msb => absurd ((toInt_neg_iff_msb d).mpr msb) later.not_gt
  have limited : moveTo old d ws = limitTo old (old + d) ws := if_neg (by rw [ahead]; exact Bool.false_ne_true)
  obtain ⟨found, within, others⟩ := limitTo_spec old ws (old + d) (distance_later ahead)
  rw [limited]
  refine ⟨found.imp_right fun ⟨w, mem, after, reaches, here⟩ => ⟨w.fromPos, ⟨⟨w, mem, rfl⟩, after, reaches⟩, here⟩, ?_⟩
  rintro f ⟨⟨w, mem, rfl⟩, after, reaches⟩
  have further := others w mem after reaches
  obtain ⟨positive, near⟩ := (isAfter_iff _ _).mp after
  have before := distance_sub_one positive
  rw [atOrAfter_ahead (o := old) (by omega) (by omega)]
  omega

theorem moveFrom_spec (old d : Pos) (ws : List Window) :
    FromMoved old d (moveFrom old d ws) fun q => ∃ w, w ∈ ws ∧ w.toPos = some q := by
  refine ⟨fun later => if_neg fun msb => absurd ((toInt_neg_iff_msb d).mpr msb) later.not_gt, fun earlier => ?_⟩
  have behind : d.msb = true := (toInt_neg_iff_msb d).mp earlier
  have limited : moveFrom old d ws = limitFrom old (old + d) ws := if_pos behind
  obtain ⟨found, within, others⟩ := limitFrom_spec old ws (old + d) (distance_earlier behind)
  rw [limited]
  refine ⟨found.imp_right fun ⟨w, mem, q, ends, after, reaches, here⟩ => ⟨q, ⟨⟨w, mem, ends⟩, after, reaches⟩, here⟩, ?_⟩
  rintro q ⟨⟨w, mem, ends⟩, after, reaches⟩
  have further := others w mem q ends after reaches
  obtain ⟨positive, near⟩ := (isAfter_iff _ _).mp after
  have before := distance_add_one positive
  rw [atOrAfter_behind (o := old) (by omega) (by omega) (Or.inr (by omega))]
  omega

/-! ### The moved window -/

theorem begun_eq (w : Window) (p : Pos) : begun w p = w.begun p := rfl

theorem passed_eq (w : Window) (p : Pos) : passed w p = w.passed p := rfl

theorem within_eq (w : Window) (p : Pos) : within w p = w.contains p := rfl

theorem toMoved_map (w : Window) (d : Pos) (ws : List Window) :
    (w.toPos = none → (w.toPos.map fun t => moveTo t d ws) = none) ∧
      ∀ q, w.toPos = some q → ∃ q', (w.toPos.map fun t => moveTo t d ws) = some q' ∧
        ToMoved q d q' fun f => ∃ v, v ∈ ws ∧ v.fromPos = f :=
  ⟨fun none => by rw [none]; rfl, fun q ends => ⟨moveTo q d ws, by rw [ends]; rfl, moveTo_spec q d ws⟩⟩

section
variable {w : Window} {p d : Pos} {holder : Bool} {ws : List Window}

theorem flipMoved_ahead (ahead : w.begun p = false) :
    w.flipMoved p d holder ws =
      { fromPos := moveFrom w.fromPos d ws, toPos := w.toPos.map fun t => moveTo t d ws } := by
  simp [Window.flipMoved, ahead]

theorem flipMoved_stays (begins : w.begun p = true) (stays : w.passed p = true ∨ holder = false) :
    w.flipMoved p d holder ws = w := by
  rcases stays with past | other <;> simp [Window.flipMoved, *]

theorem flipMoved_to (begins : w.begun p = true) (more : w.passed p = false) (holds : holder = true) :
    w.flipMoved p d holder ws = { w with toPos := w.toPos.map fun t => moveTo t d ws } := by
  simp [Window.flipMoved, begins, more, holds]

theorem flipMoved_spec (w : Window) (p d : Pos) (holder : Bool) (ws : List Window) :
    FlipMoved w (w.flipMoved p d holder ws) p d (holder = true) (· ∈ ws) := by
  refine ⟨fun ahead => ?_, fun begins => ?_⟩
  · rw [flipMoved_ahead ahead]
    exact ⟨moveFrom_spec _ _ _, toMoved_map w d ws⟩
  · by_cases stays : w.passed p = true ∨ holder = false
    · rw [flipMoved_stays begins stays]
      refine ⟨rfl, fun _ => rfl, fun more holds => ?_⟩
      exact absurd stays (not_or.mpr ⟨Bool.eq_false_iff.mp more, by rw [holds]; exact Bool.false_ne_true.symm⟩)
    · obtain ⟨more, holds⟩ := not_or.mp stays
      rw [flipMoved_to begins (Bool.eq_false_iff.mpr more) (Bool.eq_true_of_not_eq_false holds)]
      exact ⟨rfl, fun past => absurd (past.imp_right Bool.eq_false_iff.mpr) stays, fun _ _ => toMoved_map w d ws⟩

end

/-! ### The record's flip gate window and the last reservation -/

theorem mem_rivals {track : List Record} {t : Tag} {st : Setting} {w : Window} :
    w ∈ rivals track t st ↔
      ∃ o ∈ track, o.stage = .planned ∧ o.tag ≠ t ∧ ∃ g, o.gate = some g ∧ g.setting ≠ st ∧ g.win = w := by
  have named (o : Record) : (if o.stage == .planned && o.tag != t then
        match o.gate with
        | none => none
        | some g => if g.setting != st then some g.win else none
      else none) = some w ↔ o.stage = .planned ∧ o.tag ≠ t ∧ ∃ g, o.gate = some g ∧ g.setting ≠ st ∧ g.win = w := by
    by_cases other : o.stage = .planned ∧ o.tag ≠ t
    · obtain ⟨stage, tag⟩ := other
      rw [if_pos (by simp [stage, tag])]
      cases gate : o.gate <;> simp [stage, tag]
    · rw [if_neg (by simpa using other)]
      exact ⟨nofun, fun ⟨stage, tag, _⟩ => absurd ⟨stage, tag⟩ other⟩
  rw [rivals, List.mem_filterMap]
  exact exists_congr fun o => and_congr_right fun _ => named o

/-- A record is no rival of its own window. -/
theorem mem_rivals_updTrack {track : List Record} {t : Tag} {st : Setting} {w : Window} (f : Record → Record)
    (kept : ∀ q, (f q).tag = q.tag) : w ∈ rivals (updTrack t f track) t st ↔ w ∈ rivals track t st := by
  rw [mem_rivals, mem_rivals]
  constructor
  · rintro ⟨o, mem, stage, other, gate⟩
    rw [updTrack_eq_map] at mem
    obtain ⟨q, known, rfl⟩ := List.mem_map.mp mem
    by_cases named : q.tag = t
    · rw [if_pos named, kept] at other
      exact absurd named other
    · rw [if_neg named] at stage gate
      exact ⟨q, known, stage, named, gate⟩
  · rintro ⟨o, mem, stage, other, gate⟩
    refine ⟨o, ?_, stage, other, gate⟩
    rw [updTrack_eq_map]
    exact List.mem_map.mpr ⟨o, mem, if_neg other⟩

/-- A record's flip gate window after a re-anchor by `d` (R9, R87). -/
def flippedWindow (s : State) (t : Tag) (g : GatePlan) (d : Pos) : Window :=
  g.win.flipMoved s.pos d (s.holdsLast t) (rivals s.track t g.setting)

/-- The last reservation after its holder's window `w` has become `w'` (R86). -/
def movedLast (last : Option FlipReservation) (t : Tag) (w w' : Window) (p : Pos) : Option FlipReservation :=
  match last with
  | none => none
  | some l => if l.holder = t then (if w.movedBehind w' p then none else some { l with win := w' }) else some l

section
variable {s : State} {r : Record}

theorem moveFlip_ungated (d : Pos) (gate : r.gate = none) : s.moveFlip r d = s := by
  simp only [State.moveFlip, gate]

theorem moveFlip_gated {g : GatePlan} (d : Pos) (gate : r.gate = some g) :
    s.moveFlip r d =
      { s.updRec r.tag fun q => { q with gate := some { g with win := flippedWindow s r.tag g d } } with
        lastRes := movedLast s.lastRes r.tag g.win (flippedWindow s r.tag g d) s.pos } := by
  simp only [State.moveFlip, gate]
  cases lastRes : s.lastRes with
  | none => simp only [State.updRec, lastRes, movedLast]; rfl
  | some l =>
    simp only [State.updRec, lastRes, movedLast, flippedWindow]
    split
    · split <;> simp only [*, if_true, if_false, Bool.false_eq_true]
    · rfl

end

theorem holdsLast_iff (s : State) (t : Tag) : s.holdsLast t = true ↔ ∃ l, s.lastRes = some l ∧ l.holder = t := by
  unfold State.holdsLast
  cases s.lastRes <;> simp

/-- The window of a record at a re-anchor is moved by the rules of R9 and R87. -/
theorem flippedWindow_spec (s : State) (t : Tag) (g : GatePlan) (d : Pos) :
    FlipMoved g.win (flippedWindow s t g d) s.pos d (∃ l, s.lastRes = some l ∧ l.holder = t) (Rival s t g.setting) := by
  have holder : (s.holdsLast t = true) = ∃ l, s.lastRes = some l ∧ l.holder = t := propext (holdsLast_iff s t)
  have rival : (· ∈ rivals s.track t g.setting) = Rival s t g.setting := funext fun w => propext mem_rivals
  rw [← holder, ← rival]
  exact flipMoved_spec _ _ _ _ _

/-- The last reservation moves with its holder's window, and is retired where that comes to lie behind (R86). -/
theorem movedLast_holder {last : Option FlipReservation} {l : FlipReservation} {t : Tag} {w w' : Window} {p : Pos}
    (here : last = some l) (holder : l.holder = t) :
    (w.passed p = false ∧ w'.passed p = true → movedLast last t w w' p = none) ∧
      (w.passed p = true ∨ w'.passed p = false → movedLast last t w w' p = some { l with win := w' }) := by
  subst here
  simp only [movedLast, if_pos holder]
  refine ⟨fun ⟨ahead, behind⟩ => if_pos (by rw [Window.movedBehind, ahead, behind]; rfl), fun stays => if_neg ?_⟩
  rcases stays with past | ahead <;> simp [Window.movedBehind, *]

theorem movedLast_other {last : Option FlipReservation} {t : Tag} {w w' : Window} {p : Pos}
    (other : ∀ l, last = some l → l.holder ≠ t) : movedLast last t w w' p = last := by
  cases here : last with
  | none => rfl
  | some l => exact if_neg (other l here)

end Sys2Proof.Proofs
end

section
/-! PROOFS. Tray gates at a step, a re-anchor, a close and a binding (R126 to R128), in the words of the statements. -/

-- The proofs are elaborated one after another: the check gives each thread a large stack within a fixed memory.
set_option Elab.async false

namespace Sys2Proof.Proofs

open Sys2Proof.Machine
open Sys2Proof.Claims

/-! ### Windows and gates -/

theorem gateWindow_eq (g : Geometry) (anchor : Pos) (k : Fin 6) (lp : Option Nat) :
    gateWindow g anchor k lp = trayWindow g anchor k lp := rfl

theorem refresh_eq (g : TrayGate) (p : Pos) : g.refresh p = upToDate g p := rfl

theorem moved_eq (w : Window) (p d : Pos) : w.moved p d = moved w p d := by
  unfold Window.moved moved
  rw [begun_eq, passed_eq]
  cases w.begun p <;> rfl

theorem endedAt_iff (w w' : Window) (p : Pos) :
    w.endedAt w' p = true ↔ begun w p = true ∧ passed w p = false ∧ passed w' p = true := by
  simp [Window.endedAt, begun_eq, passed_eq, and_assoc]

theorem clearHold_eq (p : Pos) (h : Option Pos) :
    clearHold p h = match h with | none => none | some q => if isAfter p q = true then none else some q := by
  cases h <;> rfl

theorem step_eq_gateStepped (g : TrayGate) (p : Pos) : g.step p = gateStepped g p := by
  unfold TrayGate.step gateStepped
  rw [clearHold_eq]
  rfl

theorem reAnchor_eq_gateMoved (g : TrayGate) (t : Tag) (p d : Pos) : g.reAnchor t p d = gateMoved g t p d := by
  have each : (fun w : GateWindow => if w.holder == t then
        if w.win.endedAt (w.win.moved p d) p then none else some { w with win := w.win.moved p d } else some w) =
      fun w => if w.holder ≠ t then some w
        else if begun w.win p = true ∧ passed w.win p = false ∧ passed (moved w.win p d) p = true then none
        else some { w with win := moved w.win p d } := by
    funext w
    by_cases named : w.holder = t
    · simp only [named, beq_self_eq_true, if_true, ne_eq, not_true_eq_false, if_false, moved_eq, endedAt_iff]
    · rw [if_neg (by simpa using named), if_pos named]
  rw [TrayGate.reAnchor, each]
  rfl

theorem close_eq_gateClosed (g : TrayGate) (t : Tag) (q p : Pos) : g.close t q p = gateClosed g t q p := by
  have each : (fun w : GateWindow => if w.holder == t then { w with win := w.win.closeAt q } else w) =
      fun w => if w.holder = t ∧ w.win.toPos = none then { w with win := { w.win with toPos := some q } } else w := by
    funext w
    by_cases named : w.holder = t
    · subst named
      cases ends : w.win.toPos <;> simp [ends, Window.closeAt]
    · rw [if_neg (by simpa using named), if_neg fun both => named both.1]
  rw [TrayGate.close, each]
  rfl

/-! ### One gate of the six -/

theorem setGate_gates (s : State) (k j : Fin 6) (g : TrayGate) :
    (s.setGate k g).gates[j] = if j = k then g else s.gates[j] := by
  by_cases same : j = k
  · subst same
    simp [State.setGate]
  · rw [if_neg same]
    exact Vector.getElem_set_ne k.isLt j.isLt fun e => same (Fin.ext e.symm)

section
variable {s : State} {r : Record} (j : Fin 6)

theorem moveGateWindow_gates (d : Pos) :
    (s.moveGateWindow r d).gates[j] =
      if r.bin = some (.tray j) then gateMoved s.gates[j] r.tag s.pos d else s.gates[j] := by
  unfold State.moveGateWindow
  split
  next k bin =>
    rw [setGate_gates, bin, reAnchor_eq_gateMoved]
    by_cases same : j = k
    · subst same
      rw [if_pos rfl, if_pos rfl]
    · rw [if_neg same, if_neg (by simpa [eq_comm] using same)]
  next elsewhere => rw [if_neg fun bin => elsewhere j bin]

theorem closeGateWindow_gates (n : Nat) :
    (s.closeGateWindow r n).gates[j] =
      if r.bin = some (.tray j) then
        gateClosed s.gates[j] r.tag (r.anchor + BitVec.ofNat 16 (s.params.geo.pG[j] + n + s.params.geo.gateHold)) s.pos
      else s.gates[j] := by
  unfold State.closeGateWindow
  split
  next k bin =>
    rw [setGate_gates, bin, close_eq_gateClosed]
    by_cases same : j = k
    · subst same
      rw [if_pos rfl, if_pos rfl]
      rfl
    · rw [if_neg same, if_neg (by simpa [eq_comm] using same)]
  next elsewhere => rw [if_neg fun bin => elsewhere j bin]

theorem stepGates_gates : s.stepGates.gates[j] = gateStepped s.gates[j] s.pos := by
  rw [← step_eq_gateStepped]
  simp [State.stepGates, tabulate]

theorem addGateWindow_gates (b : Bin) (lp : Option Nat) :
    (s.addGateWindow b r.tag r.anchor lp).gates[j] =
      if b = .tray j then
        upToDate { s.gates[j] with
          windows := s.gates[j].windows ++ [{ holder := r.tag, win := trayWindow s.params.geo r.anchor j lp }] } s.pos
      else s.gates[j] := by
  cases b with
  | endTray => rfl
  | tray k =>
    simp only [State.addGateWindow, setGate_gates, refresh_eq, gateWindow_eq]
    by_cases same : j = k
    · subst same
      rw [if_pos rfl, if_pos rfl]
    · rw [if_neg same, if_neg (by simpa [eq_comm] using same)]

end

end Sys2Proof.Proofs
end

section
/-! PROOFS. A matched lead edge at T or C: the plan moves with the anchor (R8, R9, R86, R87, R102). -/

-- The proofs are elaborated one after another: the check gives each thread a large stack within a fixed memory.
set_option Elab.async false

namespace Sys2Proof.Proofs

open Sys2Proof.Machine
open Sys2Proof.Claims

/-! ### The flip gate window and the last reservation in the track (R86, R87) -/

theorem rival_updRec {s : State} {t : Tag} {f : Record → Record} (kept : ∀ q, (f q).tag = q.tag) (st : Setting) :
    Rival (s.updRec t f) t st = Rival s t st :=
  funext fun _ => propext (mem_rivals.symm.trans ((mem_rivals_updTrack f kept).trans mem_rivals))

section
variable {s : State} {older younger : List Record} {r q : Record}

/-- The plan's window and the last reservation after a re-anchor, the record standing in the track as `q`. -/
theorem moveFlip_parts (d : Pos) (apart : Apart r.tag older younger) (track : s.track = older ++ q :: younger)
    (tag : q.tag = r.tag) (gate : q.gate = r.gate) :
    ∃ g', (s.moveFlip r d).track = older ++ { q with gate := g' } :: younger ∧
      FlipAfterReAnchor s (s.moveFlip r d) r { q with gate := g' } d := by
  cases planned : r.gate with
  | none =>
    refine ⟨none, ?_, fun _ => ⟨rfl, by rw [moveFlip_ungated d planned]⟩, fun g gated => ?_, fun _ => ?_⟩
    · rw [moveFlip_ungated d planned, track, ← planned, ← gate]
    · rw [planned] at gated
      cases gated
    · rw [moveFlip_ungated d planned]
  | some g =>
    refine ⟨some { g with win := flippedWindow s r.tag g d }, ?_, fun absent => ?_, fun g' gated => ?_, fun other => ?_⟩
    · rw [moveFlip_gated d planned]
      exact updRec_at apart track _ tag
    · rw [planned] at absent
      cases absent
    · obtain rfl : g = g' := Option.some.inj (planned.symm.trans gated)
      refine ⟨_, rfl, flippedWindow_spec s r.tag g d, fun l last holder same => ?_⟩
      rw [moveFlip_gated d planned, same]
      exact movedLast_holder last holder
    · rw [moveFlip_gated d planned]
      exact movedLast_other other

theorem flipAfter_congr {s' t t' : State} {q' : Record} {d : Pos} (flip : FlipAfterReAnchor s t r q d) (pos : s'.pos = s.pos)
    (last : s'.lastRes = s.lastRes) (rival : ∀ st, Rival s' r.tag st = Rival s r.tag st) (after : t'.lastRes = t.lastRes)
    (gate : q'.gate = q.gate) : FlipAfterReAnchor s' t' r q' d := by
  obtain ⟨absent, window, other⟩ := flip
  constructor <;> simp only [pos, last, rival, after, gate]
  · exact absent
  · exact window
  · exact other

end

/-! ### The mark at a re-anchor (R102) -/

theorem raised_congr {s t : State} {v : Tally} (same : t.tally v = s.tally v) (n : Nat) : raised t v n = raised s v n := by
  rw [raised, raised, same]

theorem conflictMark_tally_self (s : State) (t : Tag) :
    (s.conflictMark t).tally .uncancelledConflict = raised s .uncancelledConflict 1 := by
  rw [State.conflictMark, raise_tally, bump_tally_self]
  rfl

theorem conflictMark_track (s : State) (t : Tag) :
    (s.conflictMark t).track = (s.setMark t (.uncancelled .conflict)).track :=
  ((bump_only _ .uncancelledConflict).trans (raise_only _ .print .headConflict)).track_eq

theorem conflictMark_flags (s : State) (t : Tag) : (s.conflictMark t).portP.flags = s.portP.flags ||| 2 := by
  have before : ((s.setMark t (.uncancelled .conflict)).bump .uncancelledConflict).portP.flags = s.portP.flags :=
    ((setMark_only s t _).trans (bump_only _ .uncancelledConflict)).printFlags_eq
  rw [← before]
  rfl

theorem isOf_iff (a : Reservation) (t : Tag) : a.isOf t = true ↔ MadeBy a t := by
  simp [Reservation.isOf, MadeBy]

theorem isOf_eq_false {a : Reservation} {t : Tag} (other : ¬ MadeBy a t) : a.isOf t = false :=
  Bool.eq_false_iff.mpr fun made => other ((isOf_iff a t).mp made)

theorem holdsOf_eq_false {o : Option Reservation} {t : Tag} (others : ∀ a, o = some a → ¬ MadeBy a t) :
    holdsOf o t = false := by
  cases o with
  | none => rfl
  | some a => exact isOf_eq_false (others a rfl)

theorem holdsOf_of_made {a : Reservation} {t : Tag} (made : MadeBy a t) : holdsOf (some a) t = true :=
  (isOf_iff a t).mpr made

section
variable {h : Head} {t : Tag} {a p : Reservation} (d : Pos)

theorem headReAnchor_elsewhere (active : ∀ a, h.active = some a → ¬ MadeBy a t)
    (pending : ∀ p, h.pending = some p → ¬ MadeBy p t) : h.reAnchor t d = (h, false) := by
  simp [Head.reAnchor, holdsOf_eq_false active, holdsOf_eq_false pending]

theorem headReAnchor_alone (active : h.active = some a) (made : MadeBy a t) (pending : h.pending = none) :
    h.reAnchor t d = ({ h with active := some (along a d) }, false) := by
  simp only [Head.reAnchor, active, holdsOf_of_made made, pending, if_true]
  rfl

theorem headReAnchor_ahead (active : h.active = some a) (made : MadeBy a t) (pending : h.pending = some p) :
    h.reAnchor t d = if isBefore p.first (a.free + d) = true then ({ h with active := some p, pending := none }, true)
      else ({ h with active := some (along a d) }, false) := by
  simp only [Head.reAnchor, active, holdsOf_of_made made, pending, if_true, Head.moveUp]
  rfl

theorem headReAnchor_behind (active : h.active = some a) (other : ¬ MadeBy a t) (pending : h.pending = some p)
    (made : MadeBy p t) :
    h.reAnchor t d = if isBefore (p.first + d) a.free = true then ({ h with pending := none }, true)
      else ({ h with pending := some (along p d) }, false) := by
  have notActive : holdsOf (some a) t = false := isOf_eq_false other
  simp only [Head.reAnchor, active, notActive, pending, holdsOf_of_made made, if_true, if_false, Bool.false_eq_true]
  rfl

end

section
variable {s : State} {r : Record} {h : HeadId} (d : Pos)

theorem moveMark_unscheduled (mark : ∀ h, r.mark ≠ some (.scheduled h)) : s.moveMark r d = s := by
  unfold State.moveMark
  split
  next h here => exact absurd here (mark h)
  next => rfl

theorem moveMark_scheduled {e : Head} {dropped : Bool} (mark : r.mark = some (.scheduled h))
    (moves : (s.head h).reAnchor r.tag d = (e, dropped)) :
    s.moveMark r d = if dropped = true then (s.setHead h e).conflictMark r.tag else s.setHead h e := by
  simp only [State.moveMark, mark, moves]

/-- What R102 says of a record's mark follows from what its head has come to hold. -/
theorem markAfter_of_moves {t : State} {q : Record} {e : Head} {dropped : Bool} (mark : r.mark = some (.scheduled h))
    (moves : (s.head h).reAnchor r.tag d = (e, dropped)) (there : t.head h = e) (others : ∀ k, k ≠ h → t.head k = s.head k)
    (kept : dropped = false → MarkKept s t r q) (drops : dropped = true → MarkDropped s t q) :
    MarkAfterReAnchor s t r q d := by
  have named {k : HeadId} (here : r.mark = some (.scheduled k)) : k = h := by
    rw [mark] at here
    exact (Mark.scheduled.inj (Option.some.inj here)).symm
  have stands {e' : Head} (same : (s.head h).reAnchor r.tag d = (e', false)) : t.head h = e' ∧ MarkKept s t r q := by
    obtain ⟨rfl, rfl⟩ := Prod.mk.inj (moves.symm.trans same)
    exact ⟨there, kept rfl⟩
  have goes {e' : Head} (same : (s.head h).reAnchor r.tag d = (e', true)) : t.head h = e' ∧ MarkDropped s t q := by
    obtain ⟨rfl, rfl⟩ := Prod.mk.inj (moves.symm.trans same)
    exact ⟨there, drops rfl⟩
  constructor
  case other => exact fun k elsewhere => others k fun same => elsewhere (same ▸ mark)
  case unset => exact fun free => absurd mark (free h)
  case elsewhere =>
    intro k here active pending
    obtain rfl := named here
    exact stands (headReAnchor_elsewhere d active pending)
  case alone =>
    intro k a here active made pending
    obtain rfl := named here
    exact stands (headReAnchor_alone d active made pending)
  case ahead =>
    intro k a p here active made pending
    obtain rfl := named here
    refine ⟨fun free => stands ?_, fun before => goes ?_⟩
    · rw [headReAnchor_ahead d active made pending, if_neg (by rw [free]; exact Bool.false_ne_true)]
    · rw [headReAnchor_ahead d active made pending, if_pos before]
  case behind =>
    intro k a p here active other pending made
    obtain rfl := named here
    refine ⟨fun free => stands ?_, fun before => goes ?_⟩
    · rw [headReAnchor_behind d active other pending made, if_neg (by rw [free]; exact Bool.false_ne_true)]
    · rw [headReAnchor_behind d active other pending made, if_pos before]

variable {older younger : List Record} {q : Record}

/-- The record's mark and its head after a re-anchor, the record standing in the track as `q`. -/
theorem moveMark_parts (apart : Apart r.tag older younger) (track : s.track = older ++ q :: younger) (tag : q.tag = r.tag)
    (mark : q.mark = r.mark) :
    ∃ m', (s.moveMark r d).track = older ++ { q with mark := m' } :: younger ∧
      MarkAfterReAnchor s (s.moveMark r d) r { q with mark := m' } d := by
  by_cases free : ∀ h, r.mark ≠ some (.scheduled h)
  · rw [moveMark_unscheduled d free]
    exact ⟨q.mark, track, fun _ _ => rfl, fun _ => ⟨mark, rfl, rfl⟩, fun h here => absurd here (free h),
      fun h _ here => absurd here (free h), fun h _ _ here => absurd here (free h), fun h _ _ here => absurd here (free h)⟩
  · obtain ⟨h, scheduled⟩ := not_forall_not.mp free
    obtain ⟨⟨e, dropped⟩, moves⟩ : ∃ m, (s.head h).reAnchor r.tag d = m := ⟨_, rfl⟩
    have set : (s.setHead h e).track = older ++ q :: younger := (setHead_only s h e).track_eq.trans track
    rw [moveMark_scheduled d scheduled moves]
    cases dropped with
    | false =>
      refine ⟨q.mark, set, markAfter_of_moves d scheduled moves (State.setHead_head s h e)
        (fun k other => State.setHead_head_ne s e other) (fun _ => ⟨mark, ?_, ?_⟩) nofun⟩
      · exact (setHead_ledger s h e).others _ (by simp)
      · exact (setHead_only s h e).printFlags_eq
    | true =>
      rw [if_pos rfl]
      have only := conflictMark_only (s.setHead h e) r.tag
      refine ⟨some (.uncancelled .conflict), (conflictMark_track _ _).trans (updRec_at apart set _ tag),
        markAfter_of_moves d scheduled moves ?_ ?_ nofun fun _ => ⟨rfl, ?_, ?_⟩⟩
      · exact (only.head_eq h).trans (State.setHead_head s h e)
      · exact fun k other => (only.head_eq k).trans (State.setHead_head_ne s e other)
      · rw [conflictMark_tally_self]
        exact raised_congr ((setHead_ledger s h e).others _ (by simp)) 1
      · rw [conflictMark_flags, (setHead_only s h e).printFlags_eq]

end

theorem markAfter_congr {s s' t t' : State} {r q q' : Record} {d : Pos} (mark : MarkAfterReAnchor s t r q d)
    (heads : ∀ h, s'.head h = s.head h) (after : ∀ h, t'.head h = t.head h)
    (tally : s'.tally .uncancelledConflict = s.tally .uncancelledConflict)
    (tallied : t'.tally .uncancelledConflict = t.tally .uncancelledConflict) (flags : s'.portP.flags = s.portP.flags)
    (flagged : t'.portP.flags = t.portP.flags) (same : q'.mark = q.mark) : MarkAfterReAnchor s' t' r q' d := by
  have kept : MarkKept s' t' r q' = MarkKept s t r q := by unfold MarkKept; rw [same, tally, tallied, flags, flagged]
  have dropped : MarkDropped s' t' q' = MarkDropped s t q := by
    unfold MarkDropped
    rw [same, tallied, raised_congr tally, flags, flagged]
  obtain ⟨other, unset, elsewhere, alone, ahead, behind⟩ := mark
  constructor <;> simp only [heads, after, kept, dropped] <;> assumption

/-! ### The edge at T or C (R8, R9) -/

/-- What a re-anchor that moves the anchor makes of a bound record and its plan. -/
theorem reAnchor_parts {s : State} {older younger : List Record} {r : Record} {n : Nat} (apart : Apart r.tag older younger)
    (track : s.track = older ++ r :: younger) (moved : s.pos - BitVec.ofNat 16 n ≠ r.anchor) :
    let a := s.pos - BitVec.ofNat 16 n
    let v := s.reAnchor r n
    ∃ q, v.track = older ++ q :: younger ∧ q = { r with anchor := a, gate := q.gate, mark := q.mark } ∧
      FlipAfterReAnchor s v r q (a - r.anchor) ∧
      (∀ j : Fin 6, v.gates[j] =
        if r.bin = some (.tray j) then gateMoved s.gates[j] r.tag s.pos (a - r.anchor) else s.gates[j]) ∧
      MarkAfterReAnchor s v r q (a - r.anchor) ∧ v.tally .reAnchors = raised s .reAnchors 1 := by
  intro a v
  obtain ⟨d, correction⟩ : ∃ d, d = a - r.anchor := ⟨_, rfl⟩
  obtain ⟨p, anchored⟩ : ∃ p, p = (s.bump .reAnchors).updRec r.tag fun q => { q with anchor := a } := ⟨_, rfl⟩
  have chain : v = ((p.moveFlip r d).moveGateWindow r d).moveMark r d := by
    rw [anchored, correction]
    exact reAnchor_moved moved
  have first : Only (.track :: countParts) s p := by
    rw [anchored]
    exact ((bump_only s .reAnchors).trans (updRec_only _ [.track] r.tag fun q => { q with anchor := a })).within
  have counts : Ledger [.reAnchors] 0 s p := by
    rw [anchored]
    exact ((bump_ledger s .reAnchors).trans
      (updRec_only (s.bump .reAnchors) [.track] r.tag fun q => { q with anchor := a }).ledger).within
  have rose : p.tally .reAnchors = raised s .reAnchors 1 := by
    rw [anchored]
    exact bump_tally_self s .reAnchors
  have here : p.track = older ++ { r with anchor := a } :: younger := by
    have before : (s.bump .reAnchors).track = older ++ r :: younger :=
      (show (s.bump .reAnchors).track = s.track from (bump_only s .reAnchors).track_eq).trans track
    rw [anchored]
    exact updRec_at apart before _ rfl
  have rival (st : Setting) : Rival s r.tag st = Rival p r.tag st := by
    have bumped : Rival (s.bump .reAnchors) r.tag st = Rival s r.tag st := by
      funext w
      rw [Rival, Rival, (bump_only s .reAnchors).track_eq]
    rw [anchored]
    refine bumped.symm.trans (rival_updRec ?_ st).symm
    exact fun _ => rfl
  obtain ⟨g, flipped, flip⟩ := moveFlip_parts d apart here rfl rfl
  have second := moveFlip_only p r d
  have third := moveGateWindow_only (p.moveFlip r d) r d
  have shifted : ((p.moveFlip r d).moveGateWindow r d).track = older ++ { r with anchor := a, gate := g } :: younger :=
    third.track_eq.trans flipped
  obtain ⟨m, marked, mark⟩ := moveMark_parts d apart shifted rfl rfl
  have last := moveMark_only ((p.moveFlip r d).moveGateWindow r d) r d
  rw [← chain] at marked mark last
  rw [← correction]
  refine ⟨_, marked, rfl, ?_, fun j => ?_, ?_, ?_⟩
  · exact flipAfter_congr flip first.pos_eq.symm first.lastRes_eq.symm rival (third.trans last).lastRes_eq rfl
  · rw [last.gates_eq, moveGateWindow_gates, second.gates_eq, second.pos_eq, first.gates_eq, first.pos_eq]
  · have before := (first.trans second).trans third
    have told : Ledger [.reAnchors] 0 s ((p.moveFlip r d).moveGateWindow r d) :=
      ((counts.trans second.ledger).trans third.ledger).within
    exact markAfter_congr mark (fun h => (before.head_eq h).symm) (fun _ => rfl) (told.others _ (by simp)).symm rfl
      before.printFlags_eq.symm rfl rfl
  · rw [← rose, chain]
    exact ((second.ledger.trans third.ledger).trans (moveMark_ledger _ r d)).others .reAnchors (by simp)

/-- Settles O30: the edge is the re-anchor of its record, with the plan that hangs on the anchor, and the move of its next
checkpoint. -/
theorem matchedEdgeAtTAndCReAnchors : Obligations.MatchedEdgeAtTAndCReAnchors := by
  intro s x older younger r b moving cell was sound track first next bin begun a goal
  have apart : Apart r.tag older younger := apart_of_distinct (track ▸ sound.distinct)
  obtain ⟨p, level⟩ : ∃ p, p = seen s x .blocked := ⟨_, rfl⟩
  have seenOnly : Only [.cells] s p := level ▸ setLevel_only s x .blocked
  have place : p.params = s.params := seenOnly.params_eq
  have pass : cellBin x = none := by rcases cell with rfl | rfl <;> rfl
  have notI : x ≠ .i := by rcases cell with rfl | rfl <;> decide
  have notR : x ≠ .r := by rcases cell with rfl | rfl <;> decide
  have goesOn : nextCheckpoint x r = goal := by
    rcases cell with rfl | rfl
    · rfl
    · rw [nextCheckpoint, bin]
      cases b <;> rfl
  obtain ⟨v, anchors⟩ : ∃ v, v = p.reAnchor r (cellPosition s.params.geo x) := ⟨_, rfl⟩
  obtain ⟨u, advances⟩ : ∃ u, u = v.updRec r.tag fun q => { q with next := goal } := ⟨_, rfl⟩
  have edge : s.lead x = u := by
    rw [lead_matched moving notI was track first next begun, ← level, matched_pass pass, if_neg notR, goesOn, place,
      advances, anchors]
  have before : p.track = older ++ r :: younger := seenOnly.track_eq.trans track
  have here : p.pos - BitVec.ofNat 16 (cellPosition s.params.geo x) = a := by rw [seenOnly.pos_eq]
  refine ⟨fun same => ?_, fun moved => ?_⟩
  · have still : v = p := anchors.trans (reAnchor_same (here.trans same))
    refine congrArg (fun t : State => Host.Outcome.next t.settle) (edge.trans ?_)
    rw [advances, still, State.updRec, before, updTrack_at apart _ rfl, level]
  · obtain ⟨q, anchored, shape, flip, gates, mark, counted⟩ :=
      reAnchor_parts apart before (fun same => moved (here.symm.trans same))
    rw [← anchors] at anchored flip gates mark counted
    rw [here] at shape flip gates mark
    have firstOnly := reAnchor_only p r (cellPosition s.params.geo x)
    have firstTold := reAnchor_ledger p r (cellPosition s.params.geo x)
    rw [← anchors] at firstOnly firstTold
    have last : Only [.track, .routes, .stages] v u := advances ▸ updRec_only v _ r.tag _
    have only : Only (.routes :: .stages :: .lastRes :: .gates :: markingParts) p u := (firstOnly.trans last).within
    have told : Ledger [.reAnchors, .uncancelledConflict] 0 p u := (firstTold.trans last.ledger).within
    have tracked : u.track = older ++ { q with next := goal } :: younger := by
      rw [advances]
      exact updRec_at apart anchored _ (by rw [shape])
    have flags : u.portS.flags = p.portS.flags ||| saturation p u := told.quiet_flags
    refine ⟨u, { q with next := goal }, congrArg (fun t : State => Host.Outcome.next t.settle) edge, ?_, ?_, ?_, fun j => ?_,
      ?_, ?_, fun w notAnchor notConflict => ?_, ?_⟩
    · rw [← level]
      refine (eq_onBelt only).trans ?_
      simp only [onBelt, only.pos_eq, only.gap_eq, only.timer_eq, only.line_eq, only.release_eq, only.training_eq,
        only.baselines_eq, only.gateOut_eq, only.bins_eq, only.read_eq, only.rOcc_eq, only.store_eq, only.iOcc_eq,
        only.feedFlags_eq, tracked, flags, level]
      rfl
    · rw [shape]
    · exact flipAfter_congr flip seenOnly.pos_eq.symm seenOnly.lastRes_eq.symm
        (fun st => by funext w; rw [Rival, Rival, seenOnly.track_eq]) last.lastRes_eq rfl
    · rw [last.gates_eq, gates, seenOnly.gates_eq, seenOnly.pos_eq, bin]
      simp only [Option.some.injEq]
    · exact markAfter_congr mark (fun h => (seenOnly.head_eq h).symm) last.head_eq (seenOnly.ledger.others _ (by simp)).symm
        (last.ledger.others _ (by simp)) seenOnly.printFlags_eq.symm last.printFlags_eq rfl
    · rw [last.ledger.others .reAnchors (by simp), counted]
      exact raised_congr (seenOnly.ledger.others _ (by simp)) 1
    · exact (told.others w (by simp [notAnchor, notConflict])).trans (seenOnly.ledger.others w (by simp))
    · exact completes_of_undone (undone_of_only (seenOnly.trans only))

end Sys2Proof.Proofs
end

section
/-! PROOFS. A read that ends OVERRUN: the length is fixed and the open windows close (R69, R85, R128). -/

-- The proofs are elaborated one after another: the check gives each thread a large stack within a fixed memory.
set_option Elab.async false

namespace Sys2Proof.Proofs

open Sys2Proof.Machine
open Sys2Proof.Claims

/-! ### Trail edges at R -/

section
variable {s : State}

/-- A trail edge at R in RUNNING and DRAINING ends the read of its occupant (R13). -/
theorem trail_at_r {t : Tag} (moving : Moving s) (was : s.level .r = .blocked) (occupant : s.rOcc = some t) :
    s.trail .r = { seen s .r .clear with rOcc := none }.endRead t := by
  have here : (seen s .r .clear).rOcc = some t := occupant
  rw [trail_of_moving moving was]
  simp only [State.judgeTrail, here]

theorem endRead_sampling {d : Reading} {ch : Vector Channel 8} (read : s.read = .sampling d ch) :
    s.endRead d.tag = s.completeRead d ch := by
  simp only [State.endRead, read, if_true]

theorem endRead_overrun {d : Reading} (read : s.read = .overrun d) : s.endRead d.tag = s.completeOverrun d := by
  simp only [State.endRead, read, if_true]

end

theorem Only.superFlags_eq {fs : List Part} {s t : State} (only : Only fs s t) (absent : .flags .super ∉ fs := by simp) :
    t.portS.flags = s.portS.flags := only (.flags .super) absent

/-! ### Both open windows of a record closed (R85, R128) -/

/-- The end of the flip gate window of a letter of `n` steps (R81, R85). -/
def flipClose (g : Geometry) (anchor : Pos) (n : Nat) : Pos := anchor + BitVec.ofNat 16 (g.pF + n + g.flipHold)

theorem flipTo_eq (g : Geometry) (anchor : Pos) (n : Nat) : flipTo g anchor n = flipClose g anchor n := rfl

section
variable {s : State} {r : Record} {n : Nat}

theorem closeFlip_lastRes_none (last : s.lastRes = none) : (s.closeFlip r n).lastRes = none :=
  (closeFlip_lastRes_other fun l here => by rw [last] at here; cases here).trans last

theorem closeFlip_lastRes_some {l : FlipReservation} (last : s.lastRes = some l) :
    (s.closeFlip r n).lastRes =
      if l.holder = r.tag ∧ l.win.toPos = none then
        some { l with win := { l.win with toPos := some (flipClose s.params.geo r.anchor n) } }
      else some l := by
  by_cases holder : l.holder = r.tag
  · cases ends : l.win.toPos with
    | none => rw [if_pos ⟨holder, rfl⟩, closeFlip_lastRes_holder last holder.symm ends, flipTo_eq]
    | some q =>
      rw [if_neg (by simp)]
      simp only [State.closeFlip, State.updRec, last, if_pos holder, Window.closeAt, ends]
  · rw [if_neg fun both => holder both.1, closeFlip_lastRes_other, last]
    intro l' here
    obtain rfl := Option.some.inj (last.symm.trans here)
    exact holder

theorem closeFlip_track (s : State) (r : Record) (n : Nat) :
    (s.closeFlip r n).track =
      (s.updRec r.tag fun q =>
        { q with gate := q.gate.map fun g => { g with win := g.win.closeAt (flipClose s.params.geo r.anchor n) } }).track := by
  unfold State.closeFlip
  dsimp only
  split
  · rfl
  · split <;> rfl

variable {older younger : List Record}

theorem closeWindows_eq (apart : Apart r.tag older younger) (track : s.track = older ++ r :: younger) :
    s.closeWindows r.tag n = (s.closeFlip r n).closeGateWindow r n := by
  simp only [State.closeWindows, findRec_at apart track rfl]

theorem closeWindows_track (apart : Apart r.tag older younger) (track : s.track = older ++ r :: younger) :
    (s.closeWindows r.tag n).track =
      older ++ { r with
        gate := r.gate.map (fun g => { g with win := g.win.closeAt (flipClose s.params.geo r.anchor n) }) } :: younger := by
  rw [closeWindows_eq apart track, (closeGateWindow_only _ r n).track_eq, closeFlip_track]
  exact updRec_at apart track _ rfl

theorem closeWindows_lastRes (apart : Apart r.tag older younger) (track : s.track = older ++ r :: younger) :
    (s.closeWindows r.tag n).lastRes = (s.closeFlip r n).lastRes := by
  rw [closeWindows_eq apart track, (closeGateWindow_only _ r n).lastRes_eq]

theorem closeWindows_gates (apart : Apart r.tag older younger) (track : s.track = older ++ r :: younger) (j : Fin 6) :
    (s.closeWindows r.tag n).gates[j] =
      if r.bin = some (.tray j) then
        gateClosed s.gates[j] r.tag (r.anchor + BitVec.ofNat 16 (s.params.geo.pG[j] + n + s.params.geo.gateHold)) s.pos
      else s.gates[j] := by
  have only := closeFlip_only s r n
  rw [closeWindows_eq apart track, closeGateWindow_gates, only.gates_eq, only.pos_eq, only.params_eq]

end

/-- Settles O34: the read's length closes the windows that its absence had left open. -/
theorem overrunTrailEdgeFixesTheLength : Obligations.OverrunTrailEdgeFixesTheLength := by
  intro s older younger r g d moving was sound track occupant reading tag gate unclosed close
  have apart : Apart r.tag older younger := apart_of_distinct (track ▸ sound.distinct)
  obtain ⟨p, seenAs⟩ : ∃ p, p = seen s .r .clear := ⟨_, rfl⟩
  have seenOnly : Only [.cells] s p := seenAs ▸ setLevel_only s .r .clear
  obtain ⟨v, fixes⟩ : ∃ v, v = { ({ p with rOcc := none } : State).updRec r.tag fun q => { q with lp := some d.count } with
      read := .idle } := ⟨_, rfl⟩
  have reads : ({ p with rOcc := none } : State).read = .overrun d :=
    (show p.read = s.read from seenOnly.read_eq).trans reading
  have edge : s.trail .r = v.closeWindows r.tag d.count := by
    rw [trail_at_r moving was occupant, ← seenAs, ← tag, endRead_overrun reads, State.completeOverrun, fixes, tag]
  have fixed : Only [.rOcc, .track, .read] p v := by
    rw [fixes]
    exact (((setROcc_only p none).trans (updRec_only _ [.track] r.tag fun q => { q with lp := some d.count })).trans
      (setRead_only _ .idle)).within
  have before : v.track = older ++ { r with lp := some d.count } :: younger := by
    rw [fixes]
    exact updRec_at apart (seenOnly.track_eq.trans track) _ rfl
  obtain ⟨u, ends⟩ : ∃ u, u = v.closeWindows r.tag d.count := ⟨_, rfl⟩
  have last : u.lastRes = (v.closeFlip { r with lp := some d.count } d.count).lastRes :=
    ends ▸ closeWindows_lastRes (r := { r with lp := some d.count }) apart before
  have closed : Only [.track, .lastRes, .gates] v u := ends ▸ closeWindows_only v r.tag d.count
  have only : Only [.rOcc, .track, .read, .lastRes, .gates] p u := (fixed.trans closed).within
  have place : v.params = s.params := (seenOnly.trans fixed).params_eq
  have lastRes : v.lastRes = s.lastRes := (seenOnly.trans fixed).lastRes_eq
  have tracked : u.track = older ++
      { r with lp := some d.count, gate := some { g with win := { g.win with toPos := some close } } } :: younger := by
    rw [ends, closeWindows_track (r := { r with lp := some d.count }) apart before, place]
    simp only [gate, Option.map_some, Window.closeAt, unclosed]
    rfl
  refine ⟨u, congrArg (fun t : State => Host.Outcome.next t.settle) (edge.trans ends.symm), ?_, fun l here holder free => ?_,
    fun l here other => ?_, fun absent => ?_, fun j => ?_, ?_⟩
  · have read : u.read = .idle := closed.read_eq.trans (by rw [fixes])
    have occupied : u.rOcc = none := closed.rOcc_eq.trans (by rw [fixes]; rfl)
    rw [← seenAs]
    refine (eq_onBelt only).trans ?_
    simp only [onBelt, only.pos_eq, only.gap_eq, only.timer_eq, only.line_eq, only.release_eq, only.training_eq,
      only.baselines_eq, only.gateOut_eq, only.bins_eq, only.headHigh_eq, only.headLow_eq, only.store_eq, only.live_eq,
      only.iOcc_eq, only.feedFlags_eq, only.printFlags_eq, only.superFlags_eq, tracked, read, occupied]
    rfl
  · rw [last, closeFlip_lastRes_some (lastRes.trans here), if_pos ⟨holder, free⟩, place]
    rfl
  · rw [last, closeFlip_lastRes_some (lastRes.trans here), if_neg fun both => other.elim (absurd both.1) (absurd both.2)]
  · exact last.trans (closeFlip_lastRes_none (lastRes.trans absent))
  · rw [ends, closeWindows_gates (r := { r with lp := some d.count }) apart before, place,
      (seenOnly.trans fixed).gates_eq, (seenOnly.trans fixed).pos_eq]
  · exact completes_of_undone (undone_of_only (seenOnly.trans only))

end Sys2Proof.Proofs
end

section
/-! PROOFS. Arrivals: the read, the bin, the tray gate and the mark of the letter that leaves (R27, R103, R128, R129). -/

-- The proofs are elaborated one after another: the check gives each thread a large stack within a fixed memory.
set_option Elab.async false

namespace Sys2Proof.Proofs

open Sys2Proof.Machine
open Sys2Proof.Claims

/-! ### The read of a record that leaves (R69) -/

section
variable {s : State} {t : Tag}

theorem leaveRead_unread (unread : ¬ ReadOf s t) : s.leaveRead t = s := by
  unfold State.leaveRead
  split
  next d ch read => exact if_neg fun tag => unread (.inl ⟨d, ch, read, tag⟩)
  next d read => exact if_neg fun tag => unread (.inr ⟨d, read, tag⟩)
  next => rfl

theorem leaveRead_sampling {d : Reading} {ch : Vector Channel 8} (read : s.read = .sampling d ch) (tag : d.tag = t) :
    s.leaveRead t = { s with read := .idle } := by
  simp only [State.leaveRead, read, tag, if_true]

theorem leaveRead_overrun {d : Reading} (read : s.read = .overrun d) (tag : d.tag = t) :
    s.leaveRead t = { s with read := .idle }.closeWindows t d.count := by
  simp only [State.leaveRead, read, tag, if_true]

theorem leaveRead_ends (reading : ReadOf s t) : (s.leaveRead t).read = .idle := by
  rcases reading with ⟨d, ch, read, tag⟩ | ⟨d, read, tag⟩
  · rw [leaveRead_sampling read tag]
  · rw [leaveRead_overrun read tag]
    exact (closeWindows_only _ t d.count).read_eq

/-- A record that is not being read OVERRUN leaves no window to close. -/
theorem leaveRead_shut (other : ∀ d, s.read = .overrun d → d.tag ≠ t) :
    (s.leaveRead t).lastRes = s.lastRes ∧ (s.leaveRead t).gates = s.gates := by
  unfold State.leaveRead
  split
  · split <;> exact ⟨rfl, rfl⟩
  next d read => rw [if_neg (other d read)]; exact ⟨rfl, rfl⟩
  · exact ⟨rfl, rfl⟩

end

/-! ### The mark of a record that leaves (R103) -/

section
variable {h : Head} {t : Tag} {a p : Reservation}

theorem depart_elsewhere (active : ∀ a, h.active = some a → ¬ MadeBy a t) (pending : ∀ p, h.pending = some p → ¬ MadeBy p t) :
    h.depart t = (h, false) := by
  simp [Head.depart, holdsOf_eq_false active, holdsOf_eq_false pending]

theorem depart_finished (active : h.active = some a) (made : MadeBy a t) (recovering : h.state = .recovering) :
    h.depart t = ({ h with active := some { a with linked := false } }, false) := by
  simp [Head.depart, active, holdsOf_of_made made, recovering, Reservation.unlink]

theorem depart_due (active : h.active = some a) (made : MadeBy a t) (due : h.state ≠ .recovering) :
    h.depart t =
      ({ h with
          active := some { a with linked := false, cut := true }
          state := if h.state = .marking then .recovering else h.state }, true) := by
  simp [Head.depart, active, holdsOf_of_made made, due, Reservation.unlink]

theorem depart_behind (active : ∀ a, h.active = some a → ¬ MadeBy a t) (pending : h.pending = some p) (made : MadeBy p t) :
    h.depart t = ({ h with pending := some { p with linked := false, cut := true } }, true) := by
  simp [Head.depart, holdsOf_eq_false active, pending, holdsOf_of_made made, Reservation.unlink]

end

section
variable {s : State} {r : Record} {h : HeadId}

theorem departMark_unscheduled (mark : ∀ h, r.mark ≠ some (.scheduled h)) : s.departMark r = s := by
  unfold State.departMark
  split
  next h here => exact absurd here (mark h)
  next => rfl

theorem departMark_scheduled {e : Head} {cut : Bool} (mark : r.mark = some (.scheduled h))
    (left : (s.head h).depart r.tag = (e, cut)) :
    s.departMark r =
      if cut = true then ((s.setHead h e).bump .incompleteMarks).raise .print .markIncomplete else s.setHead h e := by
  simp only [State.departMark, mark, left]

/-- What R103 says of a record's mark follows from what its head has come to hold. -/
theorem markLeft_of_departs {t : State} {e : Head} {cut : Bool} (mark : r.mark = some (.scheduled h))
    (left : (s.head h).depart r.tag = (e, cut)) (there : t.head h = e) (others : ∀ k, k ≠ h → t.head k = s.head k)
    (kept : cut = false → t.tally .incompleteMarks = s.tally .incompleteMarks ∧ t.portP.flags = s.portP.flags)
    (told : cut = true → t.tally .incompleteMarks = raised s .incompleteMarks 1 ∧ t.portP.flags = s.portP.flags ||| 4) :
    MarkAfterArrival s t r := by
  have named {k : HeadId} (here : r.mark = some (.scheduled k)) : k = h := by
    rw [mark] at here
    exact (Mark.scheduled.inj (Option.some.inj here)).symm
  have stands {e' : Head} (same : (s.head h).depart r.tag = (e', false)) :
      t.head h = e' ∧ t.tally .incompleteMarks = s.tally .incompleteMarks ∧ t.portP.flags = s.portP.flags := by
    obtain ⟨rfl, rfl⟩ := Prod.mk.inj (left.symm.trans same)
    exact ⟨there, kept rfl⟩
  have goes {e' : Head} (same : (s.head h).depart r.tag = (e', true)) :
      t.head h = e' ∧ t.tally .incompleteMarks = raised s .incompleteMarks 1 ∧ t.portP.flags = s.portP.flags ||| 4 := by
    obtain ⟨rfl, rfl⟩ := Prod.mk.inj (left.symm.trans same)
    exact ⟨there, told rfl⟩
  constructor
  case other => exact fun k elsewhere => others k fun same => elsewhere (same ▸ mark)
  case unset => exact fun free => absurd mark (free h)
  case elsewhere =>
    intro k here active pending
    obtain rfl := named here
    exact stands (depart_elsewhere active pending)
  case finished =>
    intro k a here active made recovering
    obtain rfl := named here
    exact stands (depart_finished active made recovering)
  case due =>
    intro k a here active made due
    obtain rfl := named here
    exact goes (depart_due active made due)
  case behind =>
    intro k p here active pending made
    obtain rfl := named here
    exact goes (depart_behind active pending made)

theorem departMark_parts (s : State) (r : Record) : MarkAfterArrival s (s.departMark r) r := by
  by_cases free : ∀ h, r.mark ≠ some (.scheduled h)
  · rw [departMark_unscheduled free]
    exact ⟨fun _ _ => rfl, fun _ => ⟨rfl, rfl⟩, fun h here => absurd here (free h), fun h _ here => absurd here (free h),
      fun h _ here => absurd here (free h), fun h _ here => absurd here (free h)⟩
  · obtain ⟨h, scheduled⟩ := not_forall_not.mp free
    obtain ⟨⟨e, cut⟩, left⟩ : ∃ m, (s.head h).depart r.tag = m := ⟨_, rfl⟩
    have set := setHead_only s h e
    rw [departMark_scheduled scheduled left]
    cases cut with
    | false =>
      exact markLeft_of_departs scheduled left (State.setHead_head s h e) (fun k other => State.setHead_head_ne s e other)
        (fun _ => ⟨(setHead_ledger s h e).others _ (by simp), set.printFlags_eq⟩) nofun
    | true =>
      rw [if_pos rfl]
      have counted := bump_only (s.setHead h e) .incompleteMarks
      have only := counted.trans (raise_only _ .print .markIncomplete)
      refine markLeft_of_departs scheduled left ?_ (fun k other => ?_) nofun fun _ => ⟨?_, ?_⟩
      · exact (only.head_eq h).trans (State.setHead_head s h e)
      · exact (only.head_eq k).trans (State.setHead_head_ne s e other)
      · rw [raise_tally, bump_tally_self]
        exact raised_congr ((setHead_ledger s h e).others _ (by simp)) 1
      · rw [← set.printFlags_eq, ← counted.printFlags_eq]
        rfl

theorem markLeft_congr {s' t t' : State} (mark : MarkAfterArrival s t r) (heads : ∀ h, s'.head h = s.head h)
    (after : ∀ h, t'.head h = t.head h) (tally : s'.tally .incompleteMarks = s.tally .incompleteMarks)
    (tallied : t'.tally .incompleteMarks = t.tally .incompleteMarks) (flags : s'.portP.flags = s.portP.flags)
    (told : t'.portP.flags = t.portP.flags) : MarkAfterArrival s' t' r := by
  obtain ⟨other, unset, elsewhere, finished, due, behind⟩ := mark
  constructor <;> simp only [heads, after, tally, tallied, flags, told, raised_congr tally] <;> assumption

end

/-! ### The tray gate of a record that leaves (R128) -/

theorem arrive_congr {g g' : TrayGate} (windows : g'.windows = g.windows) (hold : g'.hold = g.hold) (t : Tag) (p : Pos) :
    g'.arrive t p = g.arrive t p := by
  simp only [TrayGate.arrive, TrayGate.refresh, windows, hold]

theorem laterHold_eq (h : Option Pos) (q : Pos) : laterHold h q = some (heldUntil h q) := by
  cases h with
  | none => rfl
  | some p =>
    rw [laterHold, heldUntil]
    split <;> rfl

section
variable {g : TrayGate} {t : Tag}

theorem arrive_unlisted (absent : ∀ w ∈ g.windows, w.holder ≠ t) (p : Pos) : g.arrive t p = upToDate g p := by
  have kept : g.windows.filter (fun w => w.holder != t) = g.windows :=
    List.filter_eq_self.mpr fun w mem => bne_iff_ne.mpr (absent w mem)
  have missing : g.windows.find? (fun w => w.holder == t) = none :=
    List.find?_eq_none.mpr fun w mem => by simpa using absent w mem
  simp only [TrayGate.arrive, kept, missing]
  rfl

theorem arrive_listed {older younger : List GateWindow} {w : GateWindow} {q : Pos}
    (windows : g.windows = older ++ w :: younger) (others : ∀ v ∈ older ++ younger, v.holder ≠ t) (holder : w.holder = t)
    (ends : w.win.toPos = some q) (p : Pos) :
    g.arrive t p = upToDate { g with windows := older ++ younger, hold := some (heldUntil g.hold q) } p := by
  have kept (l : List GateWindow) (free : ∀ v ∈ l, v.holder ≠ t) : l.filter (fun v => v.holder != t) = l :=
    List.filter_eq_self.mpr fun v mem => bne_iff_ne.mpr (free v mem)
  obtain ⟨before, behind⟩ := List.forall_mem_append.mp others
  have left : g.windows.filter (fun v => v.holder != t) = older ++ younger := by
    rw [windows, List.filter_append, List.filter_cons_of_neg (by simpa using holder), kept older before,
      kept younger behind]
  have missing : older.find? (fun v => v.holder == t) = none :=
    List.find?_eq_none.mpr fun v mem => by simpa using before v mem
  have found : g.windows.find? (fun v => v.holder == t) = some w := by
    rw [windows, List.find?_append, missing, Option.none_or, List.find?_cons_of_pos (by simpa using holder)]
  simp only [TrayGate.arrive, left, found, ends, laterHold_eq]
  rfl

/-- Only an open window of the holder closes; every other stands. -/
theorem gateClosed_windows_of_shut {c : Pos} (shut : ∀ w ∈ g.windows, w.holder = t → w.win.toPos ≠ none) (p : Pos) :
    (gateClosed g t c p).windows = g.windows := by
  refine (List.map_congr_left fun w mem => ?_).trans (List.map_id' _)
  exact if_neg fun both => shut w mem both.1 both.2

theorem gateClosed_windows_of_open {older younger : List GateWindow} {w : GateWindow} {c : Pos}
    (windows : g.windows = older ++ w :: younger) (others : ∀ v ∈ older ++ younger, v.holder ≠ t) (holder : w.holder = t)
    (unclosed : w.win.toPos = none) (p : Pos) :
    (gateClosed g t c p).windows = older ++ { w with win := { w.win with toPos := some c } } :: younger := by
  obtain ⟨before, behind⟩ := List.forall_mem_append.mp others
  have kept (l : List GateWindow) (free : ∀ v ∈ l, v.holder ≠ t) :
      l.map (fun v => if v.holder = t ∧ v.win.toPos = none then { v with win := { v.win with toPos := some c } } else v) =
        l :=
    (List.map_congr_left fun v mem => if_neg fun both => free v mem both.1).trans (List.map_id' _)
  show g.windows.map _ = _
  rw [windows, List.map_append, List.map_cons, kept older before, kept younger behind, if_pos ⟨holder, unclosed⟩]

end

end Sys2Proof.Proofs
end

section
/-! PROOFS. A lead edge at a bin cell: the arrival as a whole (R27, R129). -/

-- The proofs are elaborated one after another: the check gives each thread a large stack within a fixed memory.
set_option Elab.async false

namespace Sys2Proof.Proofs

open Sys2Proof.Machine
open Sys2Proof.Claims

/-! ### The gates of an arrival (R128) -/

section
variable {s : State} {older younger : List Record} {r : Record}

theorem leaveRead_gates_overrun {d : Reading} (read : s.read = .overrun d) (tag : d.tag = r.tag)
    (apart : Apart r.tag older younger) (track : s.track = older ++ r :: younger) (j : Fin 6) :
    (s.leaveRead r.tag).gates[j] =
      if r.bin = some (.tray j) then
        gateClosed s.gates[j] r.tag (r.anchor + BitVec.ofNat 16 (s.params.geo.pG[j] + d.count + s.params.geo.gateHold)) s.pos
      else s.gates[j] := by
  rw [leaveRead_overrun read tag, closeWindows_gates (s := { s with read := .idle }) apart track]

/-- The gates after a record's read has ended and its letter has come in, at the gate of its bin. -/
theorem gatesLeft {t : State} {b : Bin} (apart : Apart r.tag older younger) (track : s.track = older ++ r :: younger)
    (bin : r.bin = some b)
    (after : ∀ j : Fin 6, t.gates[j] =
      if b = .tray j then ((s.leaveRead r.tag).gates[j]).arrive r.tag s.pos else (s.leaveRead r.tag).gates[j]) :
    GatesAfterArrival s t r b := by
  by_cases late : ∃ d, s.read = .overrun d ∧ d.tag = r.tag
  · obtain ⟨d, read, tag⟩ := late
    have closed := leaveRead_gates_overrun read tag apart track
    refine ⟨fun j elsewhere => ?_, fun j here absent => ?_, fun j before w behind q here windows others holder ends => ?_⟩
    · rw [after, if_neg elsewhere, closed, if_neg fun named => elsewhere (Option.some.inj (bin.symm.trans named))]
    · rw [after, if_pos here, closed, if_pos (bin.trans (congrArg some here))]
      exact (arrive_congr (gateClosed_windows_of_shut (fun w mem holder => absurd holder (absent w mem)) _) rfl _ _).trans
        (arrive_unlisted absent _)
    · rw [after, if_pos here, closed, if_pos (bin.trans (congrArg some here))]
      rcases ends with ends | ⟨unclosed, d', read', -, rfl⟩
      · have shut : ∀ v ∈ s.gates[j].windows, v.holder = r.tag → v.win.toPos ≠ none := fun v mem own => by
          rw [windows, List.mem_append, List.mem_cons, or_left_comm] at mem
          rcases mem with rfl | other
          · rw [ends]
            exact Option.some_ne_none q
          · exact absurd own (others v (List.mem_append.mpr other))
        exact (arrive_congr (gateClosed_windows_of_shut shut _) rfl _ _).trans (arrive_listed windows others holder ends _)
      · obtain rfl : d = d' := ReadState.overrun.inj (read.symm.trans read')
        exact arrive_listed (gateClosed_windows_of_open windows others holder unclosed _) others holder rfl _
  · have stands (j : Fin 6) : (s.leaveRead r.tag).gates[j] = s.gates[j] := by
      rw [(leaveRead_shut fun d read tag => late ⟨d, read, tag⟩).2]
    refine ⟨fun j elsewhere => ?_, fun j here absent => ?_, fun j before w behind q here windows others holder ends => ?_⟩
    · rw [after, if_neg elsewhere, stands]
    · rw [after, if_pos here, stands, arrive_unlisted absent]
    · have closed : w.win.toPos = some q := ends.resolve_right fun ⟨_, d, read, tag, _⟩ => late ⟨d, read, tag⟩
      rw [after, if_pos here, stands, arrive_listed windows others holder closed]

/-- The last reservation after a read has ended: the window of an OVERRUN read's record closes with it (R85). -/
theorem leaveRead_lastRes (apart : Apart r.tag older younger) (track : s.track = older ++ r :: younger) :
    ((∀ d, s.read = .overrun d → d.tag ≠ r.tag) → (s.leaveRead r.tag).lastRes = s.lastRes) ∧
      ∀ d, s.read = .overrun d → d.tag = r.tag → (s.lastRes = none → (s.leaveRead r.tag).lastRes = none) ∧
        ∀ l, s.lastRes = some l → (s.leaveRead r.tag).lastRes =
          if l.holder = r.tag ∧ l.win.toPos = none then
            some { l with win := { l.win with toPos := some (flipClose s.params.geo r.anchor d.count) } }
          else some l := by
  refine ⟨fun other => (leaveRead_shut other).1, fun d read tag => ?_⟩
  rw [leaveRead_overrun read tag, closeWindows_lastRes (s := { s with read := .idle }) apart track]
  exact ⟨fun last => closeFlip_lastRes_none (s := { s with read := .idle }) last,
    fun l last => closeFlip_lastRes_some (s := { s with read := .idle }) last⟩

end

/-! ### The bin of an arrival (R129) -/

theorem binIx_surjective (i : Fin 7) : ∃ b, binIx b = i := by
  obtain ⟨n, bound⟩ := i
  cases n with
  | zero => exact ⟨.endTray, rfl⟩
  | succ n => exact ⟨.tray ⟨n, by omega⟩, rfl⟩

theorem bins_eq_of_bin {s t : State} (same : ∀ c, t.bin c = s.bin c) : t.bins = s.bins := by
  have entry (i : Fin 7) : t.bins[i] = s.bins[i] := by
    obtain ⟨c, rfl⟩ := binIx_surjective i
    exact same c
  exact Vector.ext fun i bound => entry ⟨i, bound⟩

theorem bins_eq_set {s t : State} {b : Bin} {e : BinEntry} (same : ∀ c, t.bin c = if c = b then e else s.bin c) :
    t.bins = s.bins.set (binNumber b) e := by
  refine (bins_eq_of_bin (s := s.setBin b e) fun c => (same c).trans (setBin_bin s b c e).symm).trans ?_
  cases b <;> rfl

theorem arrivedEntry_eq (e : BinEntry) : arrivedEntry e = arrivedBin e := by
  unfold arrivedEntry judgedFull arrivedBin
  dsimp only
  split <;> rfl

theorem enterFull_feed (s : State) (b : Bin) :
    (s.enterFull b).portF.flags = s.portF.flags ||| if b = .endTray then 16 else 0 := by
  unfold State.enterFull
  dsimp only
  split
  · rfl
  · exact (BitVec.or_zero).symm

theorem holdGate_gates (s : State) (b : Bin) (t : Tag) (j : Fin 6) :
    (s.holdGate b t).gates[j] = if b = .tray j then (s.gates[j]).arrive t s.pos else s.gates[j] := by
  cases b with
  | endTray => rfl
  | tray k =>
    rw [State.holdGate, setGate_gates]
    by_cases same : j = k
    · subst same
      rw [if_pos rfl, if_pos rfl]
    · rw [if_neg same, if_neg (by simpa [eq_comm] using same)]

/-- The count of an arrival before its bin is judged, and the judgement (R129). -/
theorem countArrival_parts (s : State) (b : Bin) (t : Tag) :
    ∃ v, Only [.bins, .live, .flags .super, .gates] s v ∧ Ledger [.arrivals b, .exited] 0 s v ∧
      (∀ j : Fin 6, v.gates[j] = if b = .tray j then (s.gates[j]).arrive t s.pos else s.gates[j]) ∧
      (Fills (s.bin b) → s.countArrival b t = v.enterFull b) ∧ (¬ Fills (s.bin b) → s.countArrival b t = v) := by
  obtain ⟨e, entry⟩ : ∃ e : BinEntry,
      e = { s.bin b with bound := (s.bin b).bound - 1, count := min ((s.bin b).count + 1) 65535 } := ⟨_, rfl⟩
  obtain ⟨p, counted⟩ : ∃ p, p = ((s.setBin b e).bump (.arrivals b)).bump .exited := ⟨_, rfl⟩
  have only : Only [.bins, .live, .flags .super] s p := by
    rw [counted]
    exact (((setBin_only s b e).trans (bump_only _ (.arrivals b))).trans (bump_only _ .exited)).within
  have told : Ledger [.arrivals b, .exited] 0 s p := by
    rw [counted]
    exact (((setBin_only s b e).ledger.trans (bump_ledger _ (.arrivals b))).trans (bump_ledger _ .exited)).within
  have held := holdGate_only p b t
  have own : (p.holdGate b t).bin b = e := by
    rw [held.bin_eq b, counted, ((bump_only (s.setBin b e) (.arrivals b)).trans (bump_only _ .exited)).bin_eq b,
      setBin_bin_self]
  have judged : s.countArrival b t =
      if e.state = .available ∧ e.capacity ≤ e.count then (p.holdGate b t).enterFull b else p.holdGate b t := by
    rw [← own, counted, entry]
    rfl
  have condition : Fills (s.bin b) ↔ e.state = .available ∧ e.capacity ≤ e.count := by rw [entry]; exact Iff.rfl
  refine ⟨p.holdGate b t, (only.trans held).within, (told.trans held.ledger).within, fun j => ?_,
    fun fills => judged.trans (if_pos (condition.mp fills)), fun stays => judged.trans (if_neg (mt condition.mpr stays))⟩
  rw [holdGate_gates, only.gates_eq, only.pos_eq]

/-! ### The track of an arrival -/

theorem removeRec_parts (s : State) (t : Tag) :
    (s.removeRec t).iOcc = dropOccupant s.iOcc t ∧ (s.removeRec t).rOcc = dropOccupant s.rOcc t ∧
      (s.removeRec t).stallTimer = if (s.removeRec t).track = [] then stoppedTimer else s.stallTimer := by
  obtain ⟨v, left⟩ : ∃ v : State, v = { s with
      track := s.track.filter (fun r => r.tag != t), iOcc := dropOccupant s.iOcc t, rOcc := dropOccupant s.rOcc t } :=
    ⟨_, rfl⟩
  have removed : s.removeRec t = v.afterRemoval := by rw [left]; rfl
  have only := afterRemoval_only v
  rw [removed, only.iOcc_eq, only.rOcc_eq, only.track_eq]
  refine ⟨by rw [left], by rw [left], ?_⟩
  have timer : v.stallTimer = s.stallTimer := by rw [left]
  unfold State.afterRemoval
  by_cases empty : v.track = []
  · rw [if_pos (List.isEmpty_iff.mpr empty), if_pos empty]
  · rw [if_neg (mt List.isEmpty_iff.mp empty), if_neg empty, timer]

theorem leaveRead_filter {s : State} {older younger : List Record} {r : Record} (apart : Apart r.tag older younger)
    (track : s.track = older ++ r :: younger) :
    (s.leaveRead r.tag).track.filter (fun q => q.tag != r.tag) = older ++ younger := by
  have stands : s.track.filter (fun q => q.tag != r.tag) = older ++ younger := by rw [track, filter_at apart rfl]
  by_cases reading : ReadOf s r.tag
  · rcases reading with ⟨d, ch, read, tag⟩ | ⟨d, read, tag⟩
    · rw [leaveRead_sampling read tag]
      exact stands
    · rw [leaveRead_overrun read tag, closeWindows_track (s := { s with read := .idle }) apart track]
      exact filter_at apart rfl
  · rw [leaveRead_unread reading, stands]

/-! ### The arrival as a whole -/

/-- The notices of an arrival's count: those of a bin that fills (R129). -/
theorem countArrival_told (s : State) (b : Bin) (t : Tag) :
    (Fills (s.bin b) → Ledger [.arrivals b, .exited] 2 s (s.countArrival b t) ∧
        (s.countArrival b t).portF.flags = s.portF.flags ||| if b = .endTray then 16 else 0) ∧
      (¬ Fills (s.bin b) → Ledger [.arrivals b, .exited] 0 s (s.countArrival b t) ∧
        (s.countArrival b t).portF.flags = s.portF.flags) ∧
      ∀ j : Fin 6, (s.countArrival b t).gates[j] = if b = .tray j then (s.gates[j]).arrive t s.pos else s.gates[j] := by
  obtain ⟨v, only, told, gates, filled, stays⟩ := countArrival_parts s b t
  refine ⟨fun fills => ?_, fun other => ?_, fun j => ?_⟩
  · rw [filled fills, enterFull_feed, only.feedFlags_eq]
    exact ⟨(told.trans (enterFull_ledger v b)).within, rfl⟩
  · rw [stays other]
    exact ⟨told, only.feedFlags_eq⟩
  · rw [← gates]
    by_cases fills : Fills (s.bin b)
    · rw [filled fills, (enterFull_only v b).gates_eq]
    · rw [stays fills]

theorem arrivedEntry_state (e : BinEntry) :
    (arrivedEntry e).state = e.state ∨ e.state = .available ∧ (arrivedEntry e).state = .full := by
  unfold arrivedEntry judgedFull
  dsimp only
  split
  next full => exact .inr ⟨full.1, rfl⟩
  next => exact .inl rfl

/-- Settles O31: the four things an arrival does, each in its own part of the state. -/
theorem arrivalCountsAndRemovesTheRecord : Obligations.ArrivalCountsAndRemovesTheRecord := by
  intro s b older younger r x moving was sound track first next begun
  have apart : Apart r.tag older younger := apart_of_distinct (track ▸ sound.distinct)
  have here : cellBin x = some b := by cases b <;> rfl
  have notI : x ≠ .i := by
    intro same
    rw [same] at here
    cases here
  obtain ⟨p, level⟩ : ∃ p, p = seen s x .blocked := ⟨_, rfl⟩
  have seenOnly : Only [.cells] s p := level ▸ setLevel_only s x .blocked
  have before : p.track = older ++ r :: younger := seenOnly.track_eq.trans track
  obtain ⟨u, arrives⟩ : ∃ u, u = p.arrival r b := ⟨_, rfl⟩
  obtain ⟨w, leaves⟩ : ∃ w, w = p.leaveRead r.tag := ⟨_, rfl⟩
  obtain ⟨c, counts⟩ : ∃ c, c = w.countArrival b r.tag := ⟨_, rfl⟩
  obtain ⟨m, departs⟩ : ∃ m, m = c.departMark r := ⟨_, rfl⟩
  have removes : u = m.removeRec r.tag := by rw [arrives, departs, counts, leaves]; rfl
  have edge : s.lead x = u := by
    rw [lead_matched moving notI was track first next begun, ← level, arrives, State.matched, here]
  have left : Only [.read, .track, .lastRes, .gates] p w := leaves ▸ leaveRead_only p r.tag
  have counted : Only [.bins, .live, .flags .super, .gates, .flags .feed] w c := counts ▸ countArrival_only w b r.tag
  have departed : Only [.head .high, .head .low, .flags .print, .live, .flags .super] c m := departs ▸ departMark_only c r
  have removed : Only (.iOcc :: .rOcc :: .stallTimer :: trackParts) m u := removes ▸ removeRec_only m r.tag
  have only := arrival_only p r b
  rw [← arrives] at only
  have toCount := (seenOnly.trans left).trans counted
  have stands (k : Bin) : w.bin k = s.bin k := (seenOnly.trans left).bin_eq k
  have tracked : u.track = older ++ younger := by
    have kept : m.track.filter (fun q => q.tag != r.tag) = w.track.filter fun q => q.tag != r.tag := by
      rw [(counted.trans departed).track_eq]
    rw [removes, removeRec_track, kept, leaves]
    exact leaveRead_filter apart before
  have bins : u.bins = s.bins.set (binNumber b) (arrivedBin s.bins[binNumber b]) := by
    refine (bins_eq_set fun k => ?_).trans (by cases b <;> rfl : s.bins.set (binNumber b) (arrivedBin (s.bin b)) = _)
    rw [arrives, arrival_bin, seenOnly.bin_eq b, seenOnly.bin_eq k, arrivedEntry_eq]
  obtain ⟨fills, stays, gates⟩ := countArrival_told w b r.tag
  rw [← counts] at fills stays gates
  have afterwards : Ledger [.incompleteMarks] 0 c u := by
    have told := (departMark_ledger c r).trans (removeRec_only (c.departMark r) r.tag).ledger
    rw [← departs, ← removes] at told
    exact told.within
  have feed : u.portF.flags = c.portF.flags := (departed.trans removed).feedFlags_eq
  have told {e : Byte} (counters : Ledger [.arrivals b, .exited] e w c) :
      u.portS.flags = s.portS.flags ||| e ||| saturation s u := by
    simpa using (((seenOnly.trans left).ledger.trans counters).trans afterwards).flags
  have closes := leaveRead_lastRes apart before
  rw [← leaves, ← ((counted.trans departed).trans removed).lastRes_eq, seenOnly.lastRes_eq, seenOnly.read_eq,
    seenOnly.params_eq] at closes
  obtain ⟨occI, occR, timer⟩ := removeRec_parts m r.tag
  rw [← removes] at occI occR timer
  refine ⟨u, congrArg (fun t : State => Host.Outcome.next t.settle) edge, ?_, fun full => ?_, fun open_ => ?_, ?_, ?_,
    fun v notOwn notExited notMark => ?_, ?_, fun bin => ?_, ?_, fun reading => ?_, fun unread => ?_, ?_, ?_⟩
  · rw [← level]
    refine (eq_onBelt only).trans ?_
    simp only [onBelt, only.pos_eq, only.gap_eq, only.line_eq, only.release_eq, only.training_eq, only.baselines_eq,
      only.gateOut_eq, only.store_eq, tracked, bins, occI, occR, timer, (toCount.trans departed).iOcc_eq,
      (toCount.trans departed).rOcc_eq, (toCount.trans departed).timer_eq, level]
    rfl
  · obtain ⟨counters, notices⟩ := fills (by rwa [stands])
    refine ⟨told counters, ?_⟩
    rw [feed, notices, (seenOnly.trans left).feedFlags_eq]
  · obtain ⟨counters, notices⟩ := stays (by rwa [stands])
    refine ⟨by simpa using told counters, ?_⟩
    rw [feed, notices, (seenOnly.trans left).feedFlags_eq]
  · rw [arrives, arrival_tally_arrivals]
    exact raised_congr (seenOnly.ledger.others _ (by simp)) 1
  · rw [arrives, arrival_tally_exited]
    exact raised_congr (seenOnly.ledger.others _ (by simp)) 1
  · rw [arrives, arrival_tally_other p r b notMark notExited notOwn]
    exact seenOnly.ledger.others v (by simp)
  · have mark := departMark_parts c r
    rw [← departs] at mark
    obtain ⟨e, counters⟩ := countArrival_ledger w b r.tag
    rw [← counts] at counters
    exact markLeft_congr mark (fun h => (toCount.head_eq h).symm) removed.head_eq
      (((seenOnly.trans left).ledger.trans counters).others _ (by simp)).symm (removed.ledger.others _ (by simp))
      toCount.printFlags_eq.symm removed.printFlags_eq
  · have after (j : Fin 6) : u.gates[j] =
        if b = .tray j then ((p.leaveRead r.tag).gates[j]).arrive r.tag p.pos else (p.leaveRead r.tag).gates[j] := by
      rw [(departed.trans removed).gates_eq, gates, left.pos_eq, leaves]
    have arrived := gatesLeft apart before bin after
    rw [level] at arrived
    exact ⟨arrived.other, arrived.unlisted, arrived.listed⟩
  · exact completes_of_undone (undone_of_ports (seenOnly.trans only) fun k => by
      rw [arrives, arrival_bin, seenOnly.bin_eq b, seenOnly.bin_eq k]
      by_cases named : k = b
      · rw [if_pos named, named]
        exact arrivedEntry_state _
      · rw [if_neg named]
        exact .inl rfl)
  · rw [arrives, arrival_read]
    refine leaveRead_ends ?_
    rwa [ReadOf, seenOnly.read_eq]
  · rw [arrives, arrival_read, leaveRead_unread, seenOnly.read_eq]
    rwa [ReadOf, seenOnly.read_eq]
  · exact closes.1
  · exact closes.2

end Sys2Proof.Proofs
end

section
/-! PROOFS. The plan of a record: facing, mark and bin, each from what the statements say of it (R73, R89, R96, R97, R125). -/

-- The proofs are elaborated one after another: the check gives each thread a large stack within a fixed memory.
set_option Elab.async false

namespace Sys2Proof.Proofs

open Sys2Proof.Machine
open Sys2Proof.Claims

/-! ### Classes and marks wanted (R77, R96) -/

theorem isFaced_iff (c : Machine.Class) :
    isFaced c = true ↔ c = .stampedUp ∨ c = .stampedInv ∨ c = .meteredUp ∨ c = .meteredInv := by
  cases c <;> simp [isFaced]

theorem markWanted_iff (c : Machine.Class) (conflict : Bool) (e : SortEntry) :
    markWanted c conflict e = true ↔ Wanted c conflict e := by
  rw [markWanted, Bool.and_eq_true, Bool.and_eq_true, isFaced_iff, Wanted, Bool.not_eq_true', and_assoc]

/-- A class decided with a facing comes with its orientation and its C1. -/
def Oriented (k : Classified) : Prop := isFaced k.cls = true → ∃ o c, k.orient = some o ∧ k.c1 = some c

theorem decideKind_oriented (k : Kind) (l : List Coded) (c1 : Coded) : Oriented (decideKind k l c1) := by
  intro faced
  by_cases contested : Contested l c1
  · rw [decideKind_contested contested] at faced
    cases faced
  · cases code : c1.1 with
    | unusual =>
      rw [decideKind_unusual contested code] at faced
      cases faced
    | faced o =>
      rw [decideKind_faced contested code]
      exact ⟨o, c1.2, rfl, rfl⟩

theorem classify_oriented (v : Verdict) (f : Findings) (lp : Nat) : Oriented (classify v f lp) := by
  cases v with
  | short => exact nofun
  | overlength => exact nofun
  | inRange =>
    unfold classify classifyInRange
    dsimp only
    split
    · exact decideKind_oriented _ _ _
    · split
      · exact decideKind_oriented _ _ _
      · exact nofun

/-! ### States the cancel unit cannot tell apart -/

theorem sameMarks_trans {s t u : State} (st : SameMarks s t) (tu : SameMarks t u) : SameMarks s u := by
  obtain ⟨⟨high, low⟩, store, ⟨conflict, offline⟩, notices⟩ := st
  obtain ⟨⟨high', low'⟩, store', ⟨conflict', offline'⟩, notices'⟩ := tu
  exact ⟨⟨high'.trans high, low'.trans low⟩, store'.trans store, ⟨conflict'.trans conflict, offline'.trans offline⟩,
    notices'.trans notices⟩

/-- What the cancel unit sees stands where neither it nor its counters are touched. -/
theorem sameMarks_of_only {fs : List Part} {vs : List Tally} {e : Byte} {s t : State} (only : Only fs s t)
    (told : Ledger vs e s t) (high : .head .high ∉ fs := by simp) (low : .head .low ∉ fs := by simp)
    (store : .store ∉ fs := by simp) (flags : .flags .print ∉ fs := by simp)
    (conflict : .uncancelledConflict ∉ vs := by simp) (offline : .uncancelledOffline ∉ vs := by simp) : SameMarks s t :=
  ⟨⟨only.headHigh_eq high, only.headLow_eq low⟩, only.store_eq store, ⟨told.others _ conflict, told.others _ offline⟩,
    only.printFlags_eq flags⟩

theorem bump_tally_eq (s : State) (v w : Tally) : (s.bump v).tally w = if w = v then raised s v 1 else s.tally w := by
  by_cases own : w = v
  · rw [if_pos own, own, bump_tally_self]
  · rw [if_neg own, bump_tally_ne s own]

section
variable {s t : State} (same : SameMarks s t)
include same

theorem sameMarks_head (h : HeadId) : t.head h = s.head h := by
  cases h
  · exact same.heads.1
  · exact same.heads.2

theorem sameMarks_setHead (h : HeadId) (d : Head) : SameMarks (s.setHead h d) (t.setHead h d) := by
  obtain ⟨⟨high, low⟩, store, counts, notices⟩ := same
  cases h
  · exact ⟨⟨rfl, low⟩, store, counts, notices⟩
  · exact ⟨⟨high, rfl⟩, store, counts, notices⟩

theorem sameMarks_setMark (g : Tag) (m : Mark) : SameMarks (s.setMark g m) (t.setMark g m) :=
  ⟨same.heads, same.store, same.counts, same.notices⟩

theorem sameMarks_adopted (n : Fin 4) : SameMarks (adopted s n) (adopted t n) := by
  obtain ⟨heads, store, counts, notices⟩ := same
  refine ⟨heads, ?_, counts, notices⟩
  simp only [adopted, State.setSlot, store]

theorem sameMarks_bump (v : Tally) : SameMarks (s.bump v) (t.bump v) := by
  have before := bump_only s v
  have after := bump_only t v
  obtain ⟨⟨high, low⟩, store, ⟨conflict, offline⟩, notices⟩ := same
  have counted (w : Tally) (agrees : t.tally w = s.tally w) : (t.bump v).tally w = (s.bump v).tally w := by
    rw [bump_tally_eq, bump_tally_eq, agrees]
    by_cases own : w = v
    · rw [if_pos own, if_pos own]
      exact raised_congr (own ▸ agrees) 1
    · rw [if_neg own, if_neg own]
  refine ⟨⟨?_, ?_⟩, ?_, ⟨counted _ conflict, counted _ offline⟩, ?_⟩
  · rw [after.headHigh_eq, before.headHigh_eq, high]
  · rw [after.headLow_eq, before.headLow_eq, low]
  · rw [after.store_eq, before.store_eq, store]
  · rw [after.printFlags_eq, before.printFlags_eq, notices]

theorem sameMarks_raise (n : Notice) : SameMarks (s.raise .print n) (t.raise .print n) := by
  have before := raise_only s .print n
  have after := raise_only t .print n
  obtain ⟨⟨high, low⟩, store, ⟨conflict, offline⟩, notices⟩ := same
  refine ⟨⟨?_, ?_⟩, ?_, ⟨?_, ?_⟩, ?_⟩
  · rw [after.headHigh_eq, before.headHigh_eq, high]
  · rw [after.headLow_eq, before.headLow_eq, low]
  · rw [after.store_eq, before.store_eq, store]
  · rw [raise_tally, raise_tally, conflict]
  · rw [raise_tally, raise_tally, offline]
  · unfold State.raise
    cases noticeBit .print n with
    | none => exact notices
    | some k => exact congrArg (· ||| BitVec.ofNat 8 (2 ^ k)) notices

theorem sameMarks_giveUp (g : Tag) (r : Reason) : SameMarks (s.giveUp g r) (t.giveUp g r) :=
  sameMarks_bump (sameMarks_setMark same g _) _

theorem sameMarks_conflict (g : Tag) : SameMarks (s.conflictMark g) (t.conflictMark g) :=
  sameMarks_raise (sameMarks_bump (sameMarks_setMark same g _) _) _

end

/-- `m` is the mark that `t` has given the record of tag `g`, and nothing else of the track of `s` has changed. -/
def Marked (s t : State) (g : Tag) (m : Mark) : Prop := t.track = (s.setMark g m).track

theorem marked_giveUp (s : State) (g : Tag) (r : Reason) : Marked s (s.giveUp g r) g (.uncancelled r) :=
  (bump_only _ .uncancelledOffline).track_eq

theorem marked_raise {s t : State} {g : Tag} {m : Mark} (marked : Marked s t g m) (n : Notice) :
    Marked s (t.raise .print n) g m := (raise_only t .print n).track_eq.trans marked

theorem marked_setHead (s : State) (h : HeadId) (d : Head) (g : Tag) (m : Mark) :
    Marked s ((s.setHead h d).setMark g m) g m := by
  cases h <;> rfl

/-- Two states the cancel unit cannot tell apart get the same answer, and it cannot tell them apart afterwards (R97). -/
theorem requestMark_congr {s t : State} (same : SameMarks s t) (params : t.params = s.params) (q : MarkRequest) :
    ∃ m, m ≠ .none ∧ Marked s (s.requestMark q) q.tag m ∧ Marked t (t.requestMark q) q.tag m ∧
      SameMarks (s.requestMark q) (t.requestMark q) := by
  have head := sameMarks_head same (headFor q.facing)
  have store : t.store = s.store := same.store
  have adopts := sameMarks_adopted same q.slot
  by_cases offline : (s.head (headFor q.facing)).state = .offline
  · rw [requestMark_offline offline, requestMark_offline (head ▸ offline)]
    exact ⟨_, by simp, marked_giveUp _ _ _, marked_giveUp _ _ _, sameMarks_giveUp adopts _ _⟩
  · have online' : (t.head (headFor q.facing)).state ≠ .offline := head ▸ offline
    have columns : columnsOf t q.slot = columnsOf s q.slot := by simp only [columnsOf, store]
    have place : placeMark t.params q t.store[q.slot].adopt.live (columnsOf t q.slot) =
        placeMark s.params q s.store[q.slot].adopt.live (columnsOf s q.slot) := by rw [params, columns, store]
    by_cases unplaced : columnsOf s q.slot = 0 ∨
        placeMark s.params q s.store[q.slot].adopt.live (columnsOf s q.slot) = none
    · rw [requestMark_noMark offline unplaced, requestMark_noMark online' (unplaced.imp columns.trans place.trans)]
      exact ⟨_, by simp, marked_raise (marked_giveUp _ _ _) _, marked_raise (marked_giveUp _ _ _) _,
        sameMarks_raise (sameMarks_giveUp adopts _ _) _⟩
    · obtain ⟨columned, fits⟩ := not_or.mp unplaced
      obtain ⟨r, placed⟩ := Option.ne_none_iff_exists'.mp fits
      rw [requestMark_placed offline columned placed, requestMark_placed online' (by rwa [columns]) (place.trans placed)]
      have here := sameMarks_head adopts (headFor q.facing)
      unfold State.scheduleMark
      rw [here]
      split
      · exact ⟨_, by simp, conflictMark_track _ _, conflictMark_track _ _, sameMarks_conflict adopts _⟩
      · exact ⟨_, by simp, marked_setHead _ _ _ _ _, marked_setHead _ _ _ _ _,
          sameMarks_setMark (sameMarks_setHead adopts _ _) _ _⟩

/-! ### The parts of a plan -/

theorem planMark_unwanted {s : State} {t : Tag} {a : Pos} {k : Classified} {g : GatePlan} {c : Bool} {e : SortEntry} {lp : Nat}
    (unwanted : ¬ Wanted k.cls c e) : s.planMark t a k g c e lp = s.setMark t .none :=
  if_neg (mt (markWanted_iff _ _ _).mp unwanted)

theorem planMark_wanted {s : State} {r : Record} {k : Classified} {g : GatePlan} {c : Bool} {e : SortEntry} {lp : Nat}
    {o : Orientation} {d : Candidate} (wanted : Wanted k.cls c e) (orient : k.orient = some o) (best : k.c1 = some d) :
    s.planMark r.tag r.anchor k g c e lp = s.requestMark (handed r o e g.setting d lp) := by
  refine (if_pos ((markWanted_iff _ _ _).mpr wanted)).trans ?_
  rw [orient, best]
  rfl

/-- The mark of a plan, as the cancel unit answers it in a state it cannot tell from `v` (R89, R96, R97). -/
theorem planMark_parts {s v : State} {r : Record} {k : Classified} {g : GatePlan} {c : Bool} {e : SortEntry} {lp : Nat}
    (same : SameMarks v s) (params : s.params = v.params) (oriented : Oriented k) :
    ∃ m, Marked s (s.planMark r.tag r.anchor k g c e lp) r.tag m ∧
      (¬ Wanted k.cls c e → m = .none ∧ SameMarks v (s.planMark r.tag r.anchor k g c e lp)) ∧
      (Wanted k.cls c e → m ≠ .none ∧ ∀ o d, k.orient = some o → k.c1 = some d →
        SameMarks (v.requestMark (handed r o e g.setting d lp)) (s.planMark r.tag r.anchor k g c e lp) ∧
          Marked v (v.requestMark (handed r o e g.setting d lp)) r.tag m) := by
  by_cases wanted : Wanted k.cls c e
  · have faced : isFaced k.cls = true := (isFaced_iff _).mpr wanted.1
    obtain ⟨o, d, orient, best⟩ := oriented faced
    rw [planMark_wanted wanted orient best]
    obtain ⟨m, given, before, after, alike⟩ := requestMark_congr same params (handed r o e g.setting d lp)
    refine ⟨m, after, fun not => absurd wanted not, fun _ => ⟨given, fun o' d' orient' best' => ?_⟩⟩
    obtain rfl := Option.some.inj (orient.symm.trans orient')
    obtain rfl := Option.some.inj (best.symm.trans best')
    exact ⟨alike, before⟩
  · rw [planMark_unwanted wanted]
    exact ⟨.none, rfl, fun _ => ⟨rfl, sameMarks_trans same ⟨⟨rfl, rfl⟩, rfl, ⟨rfl, rfl⟩, rfl⟩⟩,
      fun wants => absurd wants wanted⟩

theorem gateTally_eq (g : GatePlan) (c : Bool) (v : Tally) :
    (gateTally g c = some v) ↔ (v = .turnConflicts ∧ c = true) ∨ (v = .flipped ∧ c = false ∧ g.setting = .turn) := by
  unfold gateTally
  cases c with
  | true => simp [eq_comm]
  | false => by_cases turn : g.setting = .turn <;> simp [turn, eq_comm]

theorem bumpIf_tally_eq (s : State) (t : Option Tally) (v : Tally) :
    (s.bumpIf t).tally v = if t = some v then raised s v 1 else s.tally v := by
  cases t with
  | none => rfl
  | some w =>
    rw [State.bumpIf, bump_tally_eq]
    by_cases own : v = w
    · rw [if_pos own, if_pos (congrArg some own.symm), own]
    · rw [if_neg own, if_neg fun same => own (Option.some.inj same).symm]

/-- The counters of a plan's facing (R79, R82, R83). -/
theorem planFacing_tallies (s : State) (t : Tag) (k : Classified) (g : GatePlan) (c : Bool) :
    (s.planFacing t k g c).tally (.cls k.cls) = raised s (.cls k.cls) 1 ∧
      (s.planFacing t k g c).tally .turnConflicts = gained s .turnConflicts (if c then 1 else 0) ∧
      (s.planFacing t k g c).tally .flipped = gained s .flipped (if c = false ∧ g.setting = .turn then 1 else 0) := by
  have counted (v : Tally) : (s.planFacing t k g c).tally v =
      if gateTally g c = some v then raised (s.bump (.cls k.cls)) v 1 else (s.bump (.cls k.cls)).tally v :=
    bumpIf_tally_eq _ _ _
  have once (v : Tally) (other : v ≠ .cls k.cls) (p : Prop) [Decidable p] (named : gateTally g c = some v ↔ p) :
      (s.planFacing t k g c).tally v = gained s v (if p then 1 else 0) := by
    have before : (s.bump (.cls k.cls)).tally v = s.tally v := bump_tally_ne s other
    rw [counted, if_congr named rfl rfl]
    by_cases holds : p
    · rw [if_pos holds, if_pos holds, gained_pos _ _ (by decide), raised_congr before]
    · rw [if_neg holds, if_neg holds, gained_zero, before]
  refine ⟨?_, once _ (by simp) _ ?_, once _ (by simp) _ ?_⟩
  · rw [counted, if_neg (by rw [gateTally_eq]; simp), bump_tally_self]
  · rw [gateTally_eq]
    simp
  · rw [gateTally_eq]
    simp

theorem fits_iff (e : BinEntry) : e.accepts = true ↔ Fits e := by
  rw [BinEntry.accepts, Bool.and_eq_true, beq_iff_eq, decide_eq_true_eq, Fits]

theorem chooseBin_led (s : State) (e : SortEntry) : LedTo s e (s.chooseBin e.primary e.alternate) := by
  unfold State.chooseBin
  refine ⟨fun tray => if_pos tray, fun tray fits => ?_, fun tray full other => ?_, fun tray full other fits => ?_,
    fun tray full others => ?_⟩
  · rw [if_neg tray, if_pos ((fits_iff _).mpr fits)]
  · rw [if_neg tray, if_neg (mt (fits_iff _).mp full), if_pos other]
  · rw [if_neg tray, if_neg (mt (fits_iff _).mp full), if_neg other, if_pos ((fits_iff _).mpr fits)]
  · rw [if_neg tray, if_neg (mt (fits_iff _).mp full)]
    split
    · rfl
    · exact if_neg (mt (fits_iff _).mp others)

/-- A binding in a state whose bins are those of `v` (R125). -/
theorem bind_bound {s v : State} (t : Tag) (a : Pos) (lp : Option Nat) (e : SortEntry) (bins : s.bins = v.bins) :
    BoundTo v (s.bind t a lp e) e (s.chooseBin e.primary e.alternate) := by
  have entries (c : Bin) : s.bin c = v.bin c := by rw [State.bin, State.bin, bins]
  have chosen : s.chooseBin e.primary e.alternate = v.chooseBin e.primary e.alternate := by
    simp only [State.chooseBin, entries]
  constructor
  · rw [chosen]
    exact chooseBin_led v e
  · rw [bind_bin, if_pos rfl, entries]
  · intro c other
    rw [bind_bin, if_neg other, entries]
  · intro c
    rw [bind_bin, ← entries]
    split <;> exact ⟨rfl, rfl, rfl⟩

end Sys2Proof.Proofs
end

section
/-! PROOFS. The plan of a record as a whole, and the read completed by a trail edge at R (R67, R73). -/

-- The proofs are elaborated one after another: the check gives each thread a large stack within a fixed memory.
set_option Elab.async false

namespace Sys2Proof.Proofs

open Sys2Proof.Machine
open Sys2Proof.Claims

/-! ### A plan in the words of the statements -/

/-- Record `r` with what a plan writes into it. -/
def plannedAs (r : Record) (k : Classified) (plan : GatePlan × Bool) (m : Mark) (b : Bin) : Record :=
  { r with
    stage := .planned, cls := some k.cls, orient := k.orient, gate := some plan.1, conflict := some plan.2, mark := some m
    bin := some b }

/-- What a plan of record `r` in `s` makes of everything but the track (R73). -/
structure Planned (s u : State) (r : Record) (k : Classified) (plan : GatePlan × Bool) (lp : Option Nat) (n : Nat) (m : Mark)
    (b : Bin) : Prop where
  last      : u.lastRes = some { holder := r.tag, setting := plan.1.setting, win := plan.1.win }
  output    : u.gateOut = if within plan.1.win s.pos = true then plan.1.setting else s.gateOut
  unwanted  : ¬ Wanted k.cls plan.2 (routing s k.cls plan.2) → m = .none ∧ SameMarks s u
  wanted    : Wanted k.cls plan.2 (routing s k.cls plan.2) → m ≠ .none ∧ ∀ o d, k.orient = some o → k.c1 = some d →
    let v := s.requestMark (handed r o (routing s k.cls plan.2) plan.1.setting d n)
    SameMarks v u ∧ Marked s v r.tag m
  bound     : BoundTo s u (routing s k.cls plan.2) b
  gates     : GatesBound s u b r lp
  counted   : u.tally (.cls k.cls) = raised s (.cls k.cls) 1
  conflicts : u.tally .turnConflicts = gained s .turnConflicts (if plan.2 then 1 else 0)
  flipped   : u.tally .flipped = gained s .flipped (if plan.2 = false ∧ plan.1.setting = .turn then 1 else 0)
  told      : Ledger [.floodedPieces, .cls k.cls, .flipped, .turnConflicts, .uncancelledConflict, .uncancelledOffline] 0 s u

theorem gatePlan_eq (s : State) (last : Option FlipReservation) (a : Pos) (o : Option Orientation) (lp : Option Nat) :
    gatePlan s last a o lp = planGate last (neededSetting o) (flipWindow s.params.geo a lp) lp.isNone := by
  cases o <;> rfl

theorem sortEntry_eq (s : State) (c : Machine.Class) (conflict : Bool) :
    s.sortEntry (routeClass c conflict) = routing s c conflict := by
  have place (d : Machine.Class) : s.sort[classIx d] = s.sort[classNumber d] := by cases d <;> rfl
  exact place _

theorem routing_congr {s t : State} (sort : t.sort = s.sort) (c : Machine.Class) (conflict : Bool) :
    routing t c conflict = routing s c conflict := by
  rw [routing, routing, sort]

/-- The steps of a plan in order. -/
theorem plan_eq {p : State} {q : Record} {v : Verdict} {f : Findings} {lp : Option Nat} {k : Classified}
    {plan : GatePlan × Bool} {e : SortEntry} (found : p.findRec q.tag = some q) (findings : q.findings = some f)
    (length : (if v = .overlength then none else q.lp) = lp) (unmeasured : lp.isNone = (v == .overlength))
    (classed : classify v f (q.lp.getD 0) = k) (gated : gatePlan p p.lastRes q.anchor k.orient lp = plan)
    (routed : routing p k.cls plan.2 = e) :
    p.plan q.tag v =
      (((((p.planFacing q.tag k plan.1 plan.2).planMark q.tag q.anchor k plan.1 plan.2 e (q.lp.getD 0)).bind q.tag q.anchor
        lp e).updRec q.tag fun r => { r with stage := .planned }).driveGate plan.1) := by
  have sorted : (p.planFacing q.tag k plan.1 plan.2).sort = p.sort := planFacing_only p q.tag k plan.1 plan.2 .sort (by simp)
  have entry : (p.planFacing q.tag k plan.1 plan.2).sortEntry (routeClass k.cls plan.2) = e := by
    rw [sortEntry_eq, routing_congr sorted, routed]
  rw [gatePlan_eq, unmeasured] at gated
  simp only [State.plan, found, findings, Option.getD_some, length, classed, gated, entry]

theorem driveGate_out (s : State) (g : GatePlan) :
    (s.driveGate g).gateOut = if within g.win s.pos = true then g.setting else s.gateOut := by
  rw [within_eq, State.driveGate]
  split <;> rfl

theorem planFacing_track (s : State) (t : Tag) (k : Classified) (g : GatePlan) (c : Bool) :
    (s.planFacing t k g c).track = (s.updRec t fun r =>
      { r with cls := some k.cls, orient := k.orient, gate := some g, conflict := some c }).track := by
  have before : ((s.bump (.cls k.cls)).bumpIf (gateTally g c)).track = s.track :=
    ((bump_only s (.cls k.cls)).trans (bumpIf_only _ _)).track_eq
  exact congrArg (updTrack t _) before

theorem bind_track (s : State) (t : Tag) (a : Pos) (lp : Option Nat) (e : SortEntry) :
    (s.bind t a lp e).track = (s.updRec t fun r => { r with bin := some (s.chooseBin e.primary e.alternate) }).track :=
  (addGateWindow_only _ _ t a lp).track_eq

theorem bind_gates (s : State) (r : Record) (lp : Option Nat) (e : SortEntry) (j : Fin 6) :
    (s.bind r.tag r.anchor lp e).gates[j] =
      if s.chooseBin e.primary e.alternate = .tray j then
        upToDate { s.gates[j] with
          windows := s.gates[j].windows ++ [{ holder := r.tag, win := trayWindow s.params.geo r.anchor j lp }] } s.pos
      else s.gates[j] :=
  addGateWindow_gates (s := State.updRec _ r.tag _) j _ lp

theorem boundTo_congr {s t u : State} {e : SortEntry} {b : Bin} (bound : BoundTo s t e b) (bins : u.bins = t.bins) :
    BoundTo s u e b := by
  have entries (c : Bin) : u.bin c = t.bin c := by rw [State.bin, State.bin, bins]
  obtain ⟨led, rose, others, kept⟩ := bound
  exact ⟨led, by rw [entries]; exact rose, fun c other => by rw [entries]; exact others c other,
    fun c => by rw [entries]; exact kept c⟩

theorem gained_congr {s t : State} {v : Tally} (same : t.tally v = s.tally v) (n : Nat) : gained t v n = gained s v n := by
  rw [gained, gained, same, raised_congr same]

section
variable {s p : State} {older younger : List Record} {r q : Record} {v : Verdict} {f : Findings} {lp : Option Nat}

/-- The plan of the record that stands in the track as `q`, in a state that is `s` but for the levels, the R occupant, the track,
the read and the flooded pieces. -/
theorem plan_parts (only : Only [.cells, .rOcc, .track, .read, .live, .flags .super] s p) (told : Ledger [.floodedPieces] 0 s p)
    (apart : Apart r.tag older younger) (track : p.track = older ++ q :: younger) (tag : q.tag = r.tag)
    (anchor : q.anchor = r.anchor) (findings : q.findings = some f)
    (length : (if v = .overlength then none else q.lp) = lp) (unmeasured : lp.isNone = (v == .overlength)) :
    let k := classify v f (q.lp.getD 0)
    let plan := gatePlan s s.lastRes r.anchor k.orient lp
    ∃ m b, (p.plan r.tag v).track = older ++ plannedAs q k plan m b :: younger ∧
      Planned s (p.plan r.tag v) r k plan lp (q.lp.getD 0) m b ∧
      (p.plan r.tag v).tally .floodedPieces = p.tally .floodedPieces := by
  intro k plan
  have gated : gatePlan p p.lastRes q.anchor k.orient lp = plan := by
    rw [gatePlan_eq, only.lastRes_eq, only.params_eq, anchor]
    exact (gatePlan_eq s _ _ _ _).symm
  obtain ⟨e, routed⟩ : ∃ e, e = routing s k.cls plan.2 := ⟨_, rfl⟩
  have sorted : p.sort = s.sort := only .sort (by simp)
  have steps := plan_eq (findRec_at (tag ▸ apart) track rfl) findings length unmeasured rfl gated
    ((routing_congr sorted _ _).trans routed.symm)
  rw [tag, anchor] at steps
  obtain ⟨w, faces⟩ : ∃ w, w = p.planFacing r.tag k plan.1 plan.2 := ⟨_, rfl⟩
  have first : Only (.lastRes :: .track :: countParts) p w := faces ▸ planFacing_only p r.tag k plan.1 plan.2
  have toldFirst : Ledger [.cls k.cls, .turnConflicts, .flipped] 0 p w := faces ▸ planFacing_ledger p r.tag k plan.1 plan.2
  have same : SameMarks s w := sameMarks_of_only (only.trans first) (told.trans toldFirst)
  obtain ⟨m, marked, unwanted, wanted⟩ :=
    planMark_parts (r := r) (g := plan.1) (c := plan.2) (e := e) (lp := q.lp.getD 0) same (only.trans first).params_eq
      (classify_oriented v f (q.lp.getD 0))
  obtain ⟨x, marks⟩ : ∃ x, x = w.planMark r.tag r.anchor k plan.1 plan.2 e (q.lp.getD 0) := ⟨_, rfl⟩
  have second := planMark_only w r.tag r.anchor k plan.1 plan.2 e (q.lp.getD 0)
  have toldSecond := planMark_ledger w r.tag r.anchor k plan.1 plan.2 e (q.lp.getD 0)
  rw [← marks] at marked unwanted wanted second toldSecond
  obtain ⟨y, binds⟩ : ∃ y, y = x.bind r.tag r.anchor lp e := ⟨_, rfl⟩
  have third : Only [.bins, .track, .routes, .gates] x y := binds ▸ bind_only x r.tag r.anchor lp e
  obtain ⟨z, stages⟩ : ∃ z, z = y.updRec r.tag fun r => { r with stage := .planned } := ⟨_, rfl⟩
  have fourth : Only [.track, .stages] y z := stages ▸ updRec_only y [.track, .stages] r.tag _
  obtain ⟨u, drives⟩ : ∃ u, u = z.driveGate plan.1 := ⟨_, rfl⟩
  have fifth : Only [.gateOut] z u := drives ▸ driveGate_only z plan.1
  have planned : p.plan r.tag v = u := by rw [drives, stages, binds, marks, faces, steps]
  have before := (only.trans first).trans second
  have rest := (third.trans fourth).trans fifth
  refine ⟨m, x.chooseBin e.primary e.alternate, ?_, ?_, ?_⟩
  rotate_left 2
  · rw [planned]
    exact ((toldFirst.trans toldSecond).trans rest.ledger).others _ (by simp)
  · have faced : w.track = older ++ { q with
        cls := some k.cls, orient := k.orient, gate := some plan.1, conflict := some plan.2 } :: younger := by
      rw [faces, planFacing_track]
      exact updRec_at apart track _ tag
    have given : x.track = older ++ { q with
        cls := some k.cls, orient := k.orient, gate := some plan.1, conflict := some plan.2, mark := some m } :: younger :=
      marked.trans (updRec_at apart faced _ tag)
    rw [planned, fifth.track_eq, stages]
    refine updRec_at apart (r := { q with
      cls := some k.cls, orient := k.orient, gate := some plan.1, conflict := some plan.2, mark := some m
      bin := some (x.chooseBin e.primary e.alternate) }) ?_ _ tag
    rw [binds, bind_track]
    exact updRec_at apart given _ tag
  rw [planned]
  have counts (c : Tally) (facing : c ∈ [.cls k.cls, .turnConflicts, .flipped]) :
      u.tally c = w.tally c ∧ p.tally c = s.tally c := by
    refine ⟨(toldSecond.trans rest.ledger).others c fun mem => ?_, told.others c fun mem => ?_⟩
    · simp at facing mem
      rcases facing with rfl | rfl | rfl <;> simp at mem
    · simp at facing mem
      rcases facing with rfl | rfl | rfl <;> simp at mem
  obtain ⟨class_, conflict, flip⟩ := planFacing_tallies p r.tag k plan.1 plan.2
  rw [← faces] at class_ conflict flip
  have after : SameMarks x u := sameMarks_of_only rest rest.ledger
  constructor
  case last =>
    rw [(second.trans rest).lastRes_eq, faces]
    rfl
  case output =>
    rw [drives, driveGate_out, ((before.trans third).trans fourth).pos_eq, ((before.trans third).trans fourth).gateOut_eq]
  case unwanted =>
    rw [← routed]
    intro other
    obtain ⟨none, alike⟩ := unwanted other
    exact ⟨none, sameMarks_trans alike after⟩
  case wanted =>
    rw [← routed]
    intro wants
    obtain ⟨given, answers⟩ := wanted wants
    refine ⟨given, fun o d orient best => ?_⟩
    obtain ⟨alike, told⟩ := answers o d orient best
    exact ⟨sameMarks_trans alike after, told⟩
  case bound =>
    rw [← routed]
    refine boundTo_congr ?_ (fourth.trans fifth).bins_eq
    rw [binds]
    exact bind_bound r.tag r.anchor lp e before.bins_eq
  case gates =>
    intro j
    rw [(fourth.trans fifth).gates_eq, binds, bind_gates, before.gates_eq, before.pos_eq, before.params_eq]
  case counted =>
    obtain ⟨same, base⟩ := counts (.cls k.cls) (by simp)
    rw [same, class_, raised_congr base]
  case conflicts =>
    obtain ⟨same, base⟩ := counts .turnConflicts (by simp)
    rw [same, conflict, gained_congr base]
  case flipped =>
    obtain ⟨same, base⟩ := counts .flipped (by simp)
    rw [same, flip, gained_congr base]
  case told => exact (((told.trans toldFirst).trans toldSecond).trans rest.ledger).within

end

/-! ### Read completion (R67) -/

theorem latchedOf_eq (l : Latched) (i : Fin 8) : l.of i = if i.val < 4 then l.tag else l.meter := by
  unfold Latched.of channelKind
  split <;> simp_all

theorem closeChannels_eq (ch : Vector Channel 8) (l : Latched) :
    closeChannels ch l = Vector.ofFn fun i => ch[i].closeRun (if i.val < 4 then l.tag else l.meter) := by
  simp only [closeChannels, latchedOf_eq]

/-- What the findings of a read write: the best candidates into the record, and Flooded pieces once (R67). -/
theorem writeFindings_parts (s : State) (t : Tag) (ch : Vector Channel 8) :
    Only (.track :: countParts) s (s.writeFindings t ch) ∧ Ledger [.floodedPieces] 0 s (s.writeFindings t ch) ∧
      (s.writeFindings t ch).track = (s.updRec t fun r => { r with findings := some (findingsOf ch) }).track ∧
      (s.writeFindings t ch).tally .floodedPieces =
        if ∃ i : Fin 8, ch[i].flooded = true then raised s .floodedPieces 1 else s.tally .floodedPieces := by
  refine ⟨writeFindings_only s t ch, writeFindings_ledger s t ch, ?_, ?_⟩
  · unfold State.writeFindings
    dsimp only
    split
    · exact (bump_only _ .floodedPieces).track_eq
    · rfl
  · have named : anyFlooded ch = true ↔ ∃ i : Fin 8, ch[i].flooded = true := decide_eq_true_iff
    by_cases flooded : ∃ i : Fin 8, ch[i].flooded = true
    · rw [if_pos flooded, State.writeFindings, if_pos (named.mpr flooded), bump_tally_self]
      rfl
    · rw [if_neg flooded, State.writeFindings, if_neg (mt named.mp flooded)]
      rfl

section
variable {s c : State} {older younger : List Record} {r : Record} {d : Reading} {ch : Vector Channel 8}

/-- The record and the rest of the state after a completed read, in a state that is `s` but for the levels and the R
occupant. -/
theorem completeRead_parts (base : Only [.cells, .rOcc] s c) (apart : Apart r.tag older younger)
    (track : c.track = older ++ r :: younger) (tag : d.tag = r.tag) :
    let closed := closeChannels ch d.latched
    let k := classify (if d.count < d.latched.minPiece then .short else .inRange) (findingsOf closed) d.count
    let plan := gatePlan s s.lastRes r.anchor k.orient (some d.count)
    ∃ m b, (c.completeRead d ch).track =
        older ++ plannedAs { r with lp := some d.count, findings := some (findingsOf closed) } k plan m b :: younger ∧
      Planned s (c.completeRead d ch) r k plan (some d.count) d.count m b ∧
      (c.completeRead d ch).tally .floodedPieces =
        if ∃ i : Fin 8, closed[i].flooded = true then raised s .floodedPieces 1 else s.tally .floodedPieces := by
  intro closed k plan
  obtain ⟨v, measures⟩ : ∃ v, v = c.updRec d.tag fun q => { q with lp := some d.count } := ⟨_, rfl⟩
  obtain ⟨p, found⟩ : ∃ p, p = ({ v.writeFindings d.tag closed with read := .idle } : State) := ⟨_, rfl⟩
  have first : Only [.cells, .rOcc, .track] s v :=
    (base.trans (measures ▸ updRec_only c [.track] d.tag _)).within
  obtain ⟨second, told, written, flooded⟩ := writeFindings_parts v d.tag closed
  have third := setRead_only (v.writeFindings d.tag closed) .idle
  rw [← found] at third
  have only : Only [.cells, .rOcc, .track, .read, .live, .flags .super] s p := ((first.trans second).trans third).within
  have ledger : Ledger [.floodedPieces] 0 s p := ((first.ledger.trans told).trans third.ledger).within
  have before : v.track = older ++ { r with lp := some d.count } :: younger := by
    rw [measures, tag]
    exact updRec_at apart track _ rfl
  have here : p.track = older ++ { r with lp := some d.count, findings := some (findingsOf closed) } :: younger := by
    rw [third.track_eq, written, tag]
    exact updRec_at apart before _ rfl
  have ranged : (if d.count < d.latched.minPiece then Verdict.short else .inRange) ≠ .overlength := by split <;> simp
  obtain ⟨m, b, tracked, planned, kept⟩ := plan_parts (lp := some d.count) only ledger apart here rfl rfl rfl
    (if_neg ranged) (beq_eq_false_iff_ne.mpr ranged).symm
  have ends : c.completeRead d ch = p.plan r.tag (if d.count < d.latched.minPiece then .short else .inRange) := by
    rw [found, measures, ← tag]
    rfl
  rw [ends]
  refine ⟨m, b, tracked, planned, kept.trans ?_⟩
  rw [third.ledger.others _ (by simp), flooded, raised_congr (first.ledger.others _ (by simp)),
    first.ledger.others _ (by simp)]

end

theorem marked_mark {s t : State} {g : Tag} {m : Mark} (marked : Marked s t g m) {q : Record} (mem : q ∈ t.track)
    (named : q.tag = g) : q.mark = some m := by
  rw [marked, State.setMark, State.updRec, updTrack_eq_map] at mem
  obtain ⟨r, -, rfl⟩ := List.mem_map.mp mem
  by_cases own : r.tag = g
  · rw [if_pos own]
  · rw [if_neg own] at named
    exact absurd named own

/-- Settles O33: the trail edge completes the read of its occupant, and the completion is the plan. -/
theorem trailEdgeAtRCompletesTheRead : Obligations.TrailEdgeAtRCompletesTheRead := by
  intro s older younger r d ch moving was sound track occupant reading tag closed found k plan e
  have apart : Apart r.tag older younger := apart_of_distinct (track ▸ sound.distinct)
  have closes : closeChannels ch d.latched = closed := closeChannels_eq ch d.latched
  obtain ⟨c, frees⟩ : ∃ c : State, c = { seen s .r .clear with rOcc := none } := ⟨_, rfl⟩
  have base : Only [.cells, .rOcc] s c := by
    rw [frees]
    exact (setLevel_only s .r .clear).trans (setROcc_only (seen s .r .clear) none)
  have reads : c.read = .sampling d ch := base.read_eq.trans reading
  obtain ⟨u, ends⟩ : ∃ u, u = c.completeRead d ch := ⟨_, rfl⟩
  have edge : s.trail .r = u := by
    rw [trail_at_r moving was occupant, ← frees, ← tag, endRead_sampling reads, ends]
  obtain ⟨m, b, tracked, planned, flooded⟩ := completeRead_parts (ch := ch) base apart (base.track_eq.trans track) tag
  have only := completeRead_only c d ch
  rw [closes, ← ends] at tracked planned flooded
  rw [← ends] at only
  have whole : Only (.cells :: .rOcc :: .read :: planParts) s u := (base.trans only).within
  refine ⟨u, m, b, congrArg (fun t : State => Host.Outcome.next t.settle) edge, ?_, planned.unwanted, fun wants => ?_,
    planned.bound, planned.gates, flooded, planned.counted, planned.conflicts, planned.flipped, fun v other => ?_,
    completes_of_undone (undone_of_ports whole fun c => .inl (planned.bound.kept c).2.2)⟩
  · have read : u.read = .idle := by rw [ends]; exact completeRead_read c d ch
    have occupied : u.rOcc = none := by rw [only.rOcc_eq, frees]
    have flags : u.portS.flags = s.portS.flags ||| saturation s u := planned.told.quiet_flags
    have output : u.gateOut = if within plan.1.win s.pos = true then plan.1.setting else s.gateOut := planned.output
    have seenOnly : Only (.rOcc :: .read :: planParts) (seen s .r .clear) u := by
      refine ((setROcc_only (seen s .r .clear) none).trans ?_).within (fs := [.rOcc] ++ .read :: planParts)
      rw [frees] at only
      exact only
    refine (eq_onBelt seenOnly).trans ?_
    simp only [onBelt, seenOnly.pos_eq, seenOnly.gap_eq, seenOnly.timer_eq, seenOnly.line_eq, seenOnly.release_eq,
      seenOnly.training_eq, seenOnly.baselines_eq, seenOnly.iOcc_eq, seenOnly.feedFlags_eq, tracked, read, occupied, flags,
      planned.last, output]
    rfl
  · obtain ⟨given, answers⟩ := planned.wanted wants
    refine ⟨given, fun o d' orient best => ?_⟩
    obtain ⟨alike, marked⟩ := answers o d' orient best
    exact ⟨alike, fun q mem named => marked_mark marked mem named⟩
  · exact planned.told.others v other

end Sys2Proof.Proofs
end

section
/-! PROOFS. The heads at an encoder step see the position, their own slots and the mark store alone (R92 to R95). -/

-- The proofs are elaborated one after another: the check gives each thread a large stack within a fixed memory.
set_option Elab.async false

namespace Sys2Proof.Proofs

open Sys2Proof.Machine
open Sys2Proof.Claims

/-- Two states the heads cannot tell apart at an encoder step. -/
structure SameBeat (s t : State) : Prop where
  head  : ∀ h, t.head h = s.head h
  pos   : t.pos = s.pos
  store : t.store = s.store

/-- The track after the mark of the record of tag `o`, if any, has become DONE (R95). -/
def doneIn (o : Option Tag) (track : List Record) : List Record :=
  match o with
  | none => track
  | some g => updTrack g (fun r => { r with mark := some .done }) track

/-- The record whose mark is DONE with the end of reservation `a`, if it is still owed one (R95). -/
def doneBy (a : Reservation) : Option Tag := if a.cut = false ∧ a.linked = true then some a.holder else none

theorem doneBy_made {a : Reservation} {g : Tag} (done : doneBy a = some g) : MadeBy a g := by
  unfold doneBy at done
  split at done
  next owed => exact ⟨owed.2, Option.some.inj done⟩
  next => cases done

theorem countDone_track (s : State) (a : Reservation) : (s.countDone a).track = doneIn (doneBy a) s.track := by
  have bumped : (s.bump .cancelled).track = s.track := (bump_only s .cancelled).track_eq
  unfold State.countDone doneBy
  cases cut : a.cut with
  | true => rfl
  | false =>
    cases linked : a.linked with
    | false => exact bumped
    | true => exact congrArg (updTrack a.holder _) bumped

theorem countDone_tally (s : State) (a : Reservation) :
    (s.countDone a).tally .cancelled = if a.cut = true then s.tally .cancelled else raised s .cancelled 1 := by
  unfold State.countDone
  cases cut : a.cut with
  | true => rfl
  | false =>
    rw [← bump_tally_self]
    cases linked : a.linked <;> rfl

section
variable {s t : State} (same : SameBeat s t)
include same

theorem sameBeat_setHead (h : HeadId) {d e : Head} (heads : e = d) : SameBeat (s.setHead h d) (t.setHead h e) := by
  obtain ⟨head, pos, store⟩ := same
  refine ⟨fun k => ?_, ?_, ?_⟩
  · by_cases own : k = h
    · rw [own, State.setHead_head, State.setHead_head, heads]
    · rw [State.setHead_head_ne _ _ own, State.setHead_head_ne _ _ own, head]
  · rw [(setHead_only t h e).pos_eq, (setHead_only s h d).pos_eq, pos]
  · rw [(setHead_only t h e).store_eq, (setHead_only s h d).store_eq, store]

theorem sameBeat_countDone (a : Reservation) : SameBeat (s.countDone a) (t.countDone a) := by
  have before := countDone_only s a
  have after := countDone_only t a
  obtain ⟨head, pos, store⟩ := same
  refine ⟨fun h => ?_, ?_, ?_⟩
  · rw [after.head_eq h, before.head_eq h, head]
  · rw [after.pos_eq, before.pos_eq, pos]
  · rw [after.store_eq, before.store_eq, store]

theorem fire_congr (h : HeadId) (d : Head) : t.fire h d = s.fire h d := by
  obtain ⟨-, pos, store⟩ := same
  simp only [State.fire, State.output, State.bank, pos, store]

theorem showing_congr (h : HeadId) (d : Head) (a : Reservation) : showing t h d a = showing s h d a := by
  obtain ⟨-, pos, store⟩ := same
  have dots (k : Nat) : dotsOf t h a k = dotsOf s h a k := by
    unfold dotsOf
    rw [store]
  rw [showing, showing, dots, pos]

end

theorem setHead_quiet (s : State) (h : HeadId) (d : Head) :
    (s.setHead h d).track = s.track ∧ (s.setHead h d).tally .cancelled = s.tally .cancelled :=
  ⟨(setHead_only s h d).track_eq, (setHead_ledger s h d).others _ (by simp)⟩

/-- What a head does at an encoder step, in two states it cannot tell apart: the same, to the head and to the record whose
mark ends. -/
theorem stepHead_congr {s t : State} (same : SameBeat s t) (h : HeadId) :
    SameBeat (s.stepHead h) (t.stepHead h) ∧
      (t.tally .cancelled = s.tally .cancelled → (t.stepHead h).tally .cancelled = (s.stepHead h).tally .cancelled) ∧
      ∃ o, (s.stepHead h).track = doneIn o s.track ∧ (t.stepHead h).track = doneIn o t.track ∧
        ∀ g, o = some g → ∃ a, (s.head h).active = some a ∧ MadeBy a g := by
  have quiet {d e : Head} (heads : e = d) :
      SameBeat (s.setHead h d) (t.setHead h e) ∧
        (t.tally .cancelled = s.tally .cancelled → (t.setHead h e).tally .cancelled = (s.setHead h d).tally .cancelled) ∧
        ∃ o, (s.setHead h d).track = doneIn o s.track ∧ (t.setHead h e).track = doneIn o t.track ∧
          ∀ g, o = some g → ∃ a, (s.head h).active = some a ∧ MadeBy a g := by
    refine ⟨sameBeat_setHead same h heads, fun counted => ?_, none, (setHead_quiet s h d).1, (setHead_quiet t h e).1, nofun⟩
    rw [(setHead_quiet s h d).2, (setHead_quiet t h e).2, counted]
  have dark : (t.head h).dark = (s.head h).dark := by rw [same.head]
  cases active : (s.head h).active with
  | none =>
    rw [stepHead_empty active, stepHead_empty (by rw [same.head, active]), ← active]
    exact quiet dark
  | some a =>
    have active' : (t.head h).active = some a := by rw [same.head, active]
    rw [← active]
    cases state : (s.head h).state with
    | offline =>
      rw [stepHead_offline active state, stepHead_offline active' (by rw [same.head, state])]
      exact quiet dark
    | free =>
      rw [stepHead_free active state, stepHead_free active' (by rw [same.head, state])]
      exact quiet (by rw [dark, fire_congr same])
    | marking =>
      rw [stepHead_marking active state, stepHead_marking active' (by rw [same.head, state])]
      exact quiet (by rw [showing_congr same, same.head, afterColumn, afterColumn, same.pos])
    | recovering =>
      rw [stepHead_recovering active state, stepHead_recovering active' (by rw [same.head, state]), same.pos]
      by_cases ends : a.free = s.pos
      · rw [if_pos ends, if_pos ends]
        have counts := sameBeat_countDone same a
        refine ⟨sameBeat_setHead counts h (by rw [fire_congr counts, same.head]), fun counted => ?_, doneBy a, ?_, ?_,
          fun g done => ⟨a, active, doneBy_made done⟩⟩
        · rw [(setHead_quiet _ h _).2, (setHead_quiet _ h _).2, countDone_tally, countDone_tally, counted,
            raised_congr counted]
        · rw [(setHead_quiet _ h _).1, countDone_track]
        · rw [(setHead_quiet _ h _).1, countDone_track]
      · rw [if_neg ends, if_neg ends]
        exact quiet dark

/-- Both heads at an encoder step, in two states they cannot tell apart. -/
theorem stepHeads_congr {s t : State} (same : SameBeat s t) :
    SameBeat s.stepHeads t.stepHeads ∧
      (t.tally .cancelled = s.tally .cancelled → t.stepHeads.tally .cancelled = s.stepHeads.tally .cancelled) ∧
      ∃ o p, s.stepHeads.track = doneIn p (doneIn o s.track) ∧ t.stepHeads.track = doneIn p (doneIn o t.track) ∧
        ∀ g, o = some g ∨ p = some g → ∃ h a, (s.head h).active = some a ∧ MadeBy a g := by
  obtain ⟨first, counted, o, before, before', made⟩ := stepHead_congr same .high
  obtain ⟨second, counted', p, after, after', made'⟩ := stepHead_congr first .low
  have kept : (s.stepHead .high).head .low = s.head .low := (stepHead_only s .high).head_eq .low
  refine ⟨second, fun agrees => counted' (counted agrees), o, p, ?_, ?_, fun g done => ?_⟩
  · rw [← before]
    exact after
  · rw [← before']
    exact after'
  · rcases done with done | done
    · obtain ⟨a, active, own⟩ := made g done
      exact ⟨.high, a, active, own⟩
    · obtain ⟨a, active, own⟩ := made' g done
      exact ⟨.low, a, kept ▸ active, own⟩

end Sys2Proof.Proofs
end

section
/-! PROOFS. An encoder step block by block: the position, the grant, the samples and the abandonment (R1, R11, R43, R46, R51, R53, R62, R68). -/

-- The proofs are elaborated one after another: the check gives each thread a large stack within a fixed memory.
set_option Elab.async false

namespace Sys2Proof.Proofs

open Sys2Proof.Machine
open Sys2Proof.Claims

/-! ### The missing check (R11) -/

theorem missing_iff (s : State) (r : Record) : s.advance.missing r = true ↔ MissingAt s (s.pos + 1) r := by
  unfold State.missing MissingAt
  cases r.next with
  | none => simp
  | some x =>
    have here : ((s.advance.windowAt r x).passed s.advance.pos = true) =
        (isAfter (s.pos + 1) (r.anchor + BitVec.ofNat 16 (cellPosition s.params.geo x) +
          BitVec.ofNat 16 s.params.geo.tol) = true) := rfl
    simp only [here, Option.some.injEq, exists_eq_left']

theorem moving_iff (s : State) : s.moving = true ↔ Moving s := by simp [State.moving, Moving]

theorem moving_congr {s t : State} (line : t.line = s.line) : Moving t ↔ Moving s := by rw [Moving, Moving, line]

theorem missingCheck_none {s : State} (calm : ¬ Moving s ∨ NoneMissing s) : s.advance.missingCheck = s.advance := by
  unfold State.missingCheck
  by_cases moving : Moving s
  · have none : s.advance.track.find? s.advance.missing = .none :=
      List.find?_eq_none.mpr fun r mem gone => calm.resolve_left (not_not_intro moving) r mem ((missing_iff s r).mp gone)
    rw [none]
    split <;> rfl
  · exact if_neg (mt (moving_iff _).mp moving)

/-! ### The step before its samples: the position, the wake, the last reservation and the grant -/

/-- The state an encoder step's samples meet where no record is missing. -/
def beforeSamples (s : State) : State := s.advance.wake.retire.expireGrant

/-- The state an encoder step's abandonment and heads meet. -/
def afterSamples (s : State) (z : Samples) : State := (beforeSamples s).useSamples s.line z

theorem encoder_calm {s : State} (z : Samples) (calm : ¬ Moving s ∨ NoneMissing s) :
    s.encoder z = (afterSamples s z).abandonIfDue.stepHeads.stepFlip.stepGates := by
  simp only [State.encoder, missingCheck_none calm]
  rfl

theorem retire_lastRes (s : State) : s.retire.lastRes = retiredAt s.lastRes s.pos := by
  unfold State.retire retiredAt
  cases last : s.lastRes with
  | none => exact last
  | some l =>
    dsimp only
    rw [passed_eq]
    split
    · rfl
    · exact last

theorem wake_parts (s : State) :
    s.wake.line = (if s.line = .standby then .idle else s.line) ∧
      s.wake.training = if s.line = .standby then Vector.replicate 8 0 else s.training := by
  unfold State.wake
  split <;> exact ⟨rfl, rfl⟩

theorem woken_moving {s t : State} (line : t.line = if s.line = .standby then .idle else s.line) : Moving t ↔ Moving s := by
  rw [Moving, Moving, line]
  by_cases asleep : s.line = .standby <;> simp [asleep]

/-- What an encoder step has done before it comes to its samples. -/
structure Started (s v : State) : Prop where
  only     : Only [.pos, .gap, .stallTimer, .line, .training, .lastRes, .flags .feed, .release, .live, .flags .super] s v
  told     : Ledger [.feedMisses] 0 s v
  pos      : v.pos = s.pos + 1
  gap      : v.gap = s.gap - 1
  timer    : v.stallTimer = { count := 0, dormant := false }
  line     : v.line = if s.line = .standby then .idle else s.line
  training : v.training = if s.line = .standby then Vector.replicate 8 0 else s.training
  lastRes  : v.lastRes = retiredAt s.lastRes (s.pos + 1)
  release  : ReleaseStepped s v
  missed   : Misses s → v.portF.flags = s.portF.flags ||| 2 ∧ v.tally .feedMisses = raised s .feedMisses 1
  stands   : ¬ Misses s → v.portF.flags = s.portF.flags ∧ v.tally .feedMisses = s.tally .feedMisses

/-- The grant of `w`, a state at the new position, judged (R43). -/
theorem expireGrant_parts {s w : State} (moving : Moving w ↔ Moving s) (pos : w.pos = s.pos + 1)
    (release : w.release = s.release) (flight : w.flight .feed = s.flight .feed) (params : w.params = s.params) :
    (Misses s → w.expireGrant.release = (if s.flight .feed = some .release then .waiting else .none) ∧
        w.expireGrant.portF.flags = w.portF.flags ||| 2 ∧ w.expireGrant.tally .feedMisses = raised w .feedMisses 1) ∧
      (¬ Misses s → w.expireGrant = w) := by
  refine ⟨fun ⟨going, g, granted, late⟩ => ?_, fun standing => ?_⟩
  · rw [expireGrant_of_missed (moving.mpr going) (release.trans granted) (by rwa [pos, params]), flight]
    refine ⟨rfl, ?_, ?_⟩
    · have counted := (bump_only (w.raise .feed .feedMiss) .feedMisses).feedFlags_eq
      exact counted
    · exact bump_tally_self (w.raise .feed .feedMiss) .feedMisses
  · cases grant : s.release with
    | none => exact expireGrant_of_none (.inl (release.trans grant))
    | waiting => exact expireGrant_of_none (.inr (release.trans grant))
    | granted g =>
      refine expireGrant_of_standing (release.trans grant) ?_
      by_cases going : Moving s
      · refine .inr (Bool.eq_false_iff.mpr fun late => standing ⟨going, g, grant, ?_⟩)
        rwa [pos, params] at late
      · exact .inl (mt moving.mp going)

theorem started (s : State) : Started s (beforeSamples s) := by
  obtain ⟨w, begins⟩ : ∃ w, w = s.advance.wake.retire := ⟨_, rfl⟩
  have woken := wake_only s.advance
  have retired := retire_only s.advance.wake
  rw [← begins] at retired
  have before : Only [.pos, .gap, .stallTimer, .line, .training, .lastRes] s w :=
    ((advance_only s).trans woken).trans retired
  obtain ⟨line, training⟩ := wake_parts s.advance
  have awake : w.line = if s.line = .standby then .idle else s.line := retired.line_eq.trans line
  have pos : w.pos = s.pos + 1 := (woken.trans retired).pos_eq
  have last := expireGrant_only w
  obtain ⟨missed, stands⟩ := expireGrant_parts (woken_moving awake) pos before.release_eq
    (before.flight_eq .feed) before.params_eq
  have kept : beforeSamples s = w.expireGrant := by rw [begins]; rfl
  rw [kept]
  constructor
  case only => exact (before.trans last).within
  case told => exact (before.ledger.trans (expireGrant_ledger w)).within
  case pos => rw [last.pos_eq, pos]
  case gap => exact ((woken.trans retired).trans last).gap_eq
  case timer => exact ((woken.trans retired).trans last).timer_eq
  case line => rw [last.line_eq, awake]
  case training => exact (retired.trans last).training_eq.trans training
  case lastRes =>
    rw [last.lastRes_eq, begins, retire_lastRes, woken.pos_eq, woken.lastRes_eq]
    rfl
  case release =>
    refine ⟨fun other => ?_, fun misses => (missed misses).1⟩
    rw [stands other, before.release_eq]
  case missed =>
    intro misses
    obtain ⟨-, flags, counted⟩ := missed misses
    rw [flags, counted, before.feedFlags_eq, raised_congr (before.ledger.others _ (by simp))]
    exact ⟨rfl, rfl⟩
  case stands =>
    intro other
    rw [stands other, before.feedFlags_eq]
    exact ⟨rfl, before.ledger.others _ (by simp)⟩

theorem Only.cells_eq {fs : List Part} {s t : State} (only : Only fs s t) (absent : .cells ∉ fs := by simp) :
    t.cells = s.cells := only .cells absent

/-! ### The samples of a step (R46, R53, R62) -/

section
variable {s : State} (z : Samples)

theorem level_r (s : State) : s.level .r = s.cells[(1 : Fin 11)] := rfl

theorem afterSamples_trains (trains : Trains s) : afterSamples s z = (beforeSamples s).train z := by
  have level : (beforeSamples s).level .r = .clear := by
    rw [level_r, (started s).only.cells_eq]
    exact trains.1
  have lines : s.line = .idle ∨ s.line = .running ∨ s.line = .draining := trains.2
  simp only [afterSamples, State.useSamples, level, if_pos lines]

theorem afterSamples_rests (rests : ¬ Trains s) (still : ¬ Moving s) : afterSamples s z = beforeSamples s := by
  have outside : ¬ (s.line = .running ∨ s.line = .draining) := still
  unfold afterSamples State.useSamples
  split
  next level =>
    refine if_neg fun lines => rests ⟨?_, lines⟩
    rwa [level_r, (started s).only.cells_eq] at level
  next => exact if_neg outside

section
variable (moving : Moving s) (blocked : s.cells[(1 : Fin 11)] = .blocked)
include moving blocked

theorem samples_meet :
    (beforeSamples s).level .r = .blocked ∧ (s.line = .running ∨ s.line = .draining) ∧ (beforeSamples s).read = s.read :=
  ⟨by rw [level_r, (started s).only.cells_eq, blocked], moving, (started s).only.read_eq⟩

theorem afterSamples_sampling {d : Reading} {ch : Vector Channel 8} (read : s.read = .sampling d ch) :
    afterSamples s z = (beforeSamples s).readSample d ch z := by
  obtain ⟨level, lines, reads⟩ := samples_meet moving blocked
  simp only [afterSamples, State.useSamples, level, if_pos lines, reads, read]

theorem afterSamples_overrun {d : Reading} (read : s.read = .overrun d) :
    afterSamples s z = { beforeSamples s with read := .overrun { d with count := min (d.count + 1) 65535 } } := by
  obtain ⟨level, lines, reads⟩ := samples_meet moving blocked
  simp only [afterSamples, State.useSamples, level, if_pos lines, reads, read]

theorem afterSamples_idle (read : s.read = .idle) : afterSamples s z = beforeSamples s := by
  obtain ⟨level, lines, reads⟩ := samples_meet moving blocked
  simp only [afterSamples, State.useSamples, level, if_pos lines, reads, read]

end

theorem blocked_of_not_clear {l : Level} (other : l ≠ .clear) : l = .blocked := by cases l <;> simp_all

theorem afterSamples_only (s : State) (z : Samples) :
    Only [.baselines, .training, .flags .feed, .read] (beforeSamples s) (afterSamples s z) := useSamples_only _ _ z

/-- A step that is no training step leaves baselines, training counts and notices as they are. -/
theorem afterSamples_untrained (rests : ¬ Trains s) : Only [.read] (beforeSamples s) (afterSamples s z) := by
  by_cases moving : Moving s
  · have blocked := blocked_of_not_clear fun clear => rests ⟨clear, .inr moving⟩
    cases read : s.read with
    | sampling d ch =>
      rw [afterSamples_sampling z moving blocked read]
      exact readSample_only _ _ _ z
    | overrun d =>
      rw [afterSamples_overrun z moving blocked read]
      exact setRead_only _ _
    | idle =>
      rw [afterSamples_idle z moving blocked read]
      exact Only.refl _ _
  · rw [afterSamples_rests z rests moving]
    exact Only.refl _ _

theorem afterSamples_unread (other : Trains s ∨ ¬ Moving s) : (afterSamples s z).read = s.read := by
  by_cases trains : Trains s
  · rw [afterSamples_trains z trains, (train_only _ z).read_eq, (started s).only.read_eq]
  · rw [afterSamples_rests z trains (other.resolve_left trains), (started s).only.read_eq]

/-- A training step may raise TRAINED (bit 3), and no other notice. -/
theorem afterSamples_feed (s : State) (z : Samples) :
    (afterSamples s z).portF.flags ||| 8 = (beforeSamples s).portF.flags ||| 8 := by
  by_cases trains : Trains s
  · rw [afterSamples_trains z trains]
    unfold State.train
    dsimp only
    split
    · have twice : ((beforeSamples s).portF.flags ||| 8) ||| 8 = (beforeSamples s).portF.flags ||| 8 := by
        rw [BitVec.or_assoc, BitVec.or_self]
      exact twice
    · rfl
  · rw [(afterSamples_untrained z trains).feedFlags_eq]

end

/-! ### The abandonment (R68) -/

theorem not_wanted_overlength (c : Bool) (e : SortEntry) : ¬ Wanted .overlength c e := by simp [Wanted]

/-- The plan of an OVERLENGTH record reaches neither heads nor mark store: no mark is wanted (R83, R96). -/
theorem plan_overlength_only (s : State) (t : Tag) :
    Only [.lastRes, .track, .live, .flags .super, .bins, .routes, .gates, .stages, .gateOut] s (s.plan t .overlength) := by
  unfold State.plan
  split
  · exact Only.refl _ s
  next r _ =>
    dsimp only
    rw [planMark_unwanted (k := classify .overlength _ _) (not_wanted_overlength _ _)]
    exact (((((planFacing_only s t _ _ _).trans (setMark_only _ t .none)).trans (bind_only _ t _ _ _)).trans
      (updRec_only _ [.track, .stages] t _)).trans (driveGate_only _ _)).within

theorem abandonRead_quiet (s : State) (d : Reading) (ch : Vector Channel 8) :
    Only [.read, .lastRes, .track, .live, .flags .super, .bins, .routes, .gates, .stages, .gateOut] s (s.abandonRead d ch) :=
  (((writeFindings_only s d.tag _).trans (setRead_only _ (.overrun d))).trans (plan_overlength_only _ d.tag)).within

theorem abandonIfDue_quiet (s : State) :
    Only [.read, .lastRes, .track, .live, .flags .super, .bins, .routes, .gates, .stages, .gateOut] s s.abandonIfDue := by
  unfold State.abandonIfDue
  split
  · split
    · exact abandonRead_quiet s _ _
    · exact Only.refl _ s
  · exact Only.refl _ s

theorem abandonIfDue_of_due {s : State} {d : Reading} {ch : Vector Channel 8} (read : s.read = .sampling d ch)
    (moving : Moving s) (blocked : s.level .r = .blocked) (long : d.latched.maxPiece < d.count) :
    s.abandonIfDue = s.abandonRead d ch := by
  have going := (moving_iff s).mpr moving
  simp [State.abandonIfDue, read, going, blocked, long]

theorem abandonIfDue_of_other {s : State}
    (other : ∀ d ch, s.read = .sampling d ch → Moving s → s.level .r = .blocked → d.count ≤ d.latched.maxPiece) :
    s.abandonIfDue = s := by
  unfold State.abandonIfDue
  split
  next d ch read =>
    refine if_neg fun due => ?_
    rw [Bool.and_eq_true, Bool.and_eq_true, moving_iff, beq_iff_eq, decide_eq_true_eq] at due
    obtain ⟨⟨moving, blocked⟩, long⟩ := due
    exact absurd long (other d ch read moving blocked).not_gt
  next => rfl

theorem readSample_read (s : State) (d : Reading) (ch : Vector Channel 8) (z : Samples) :
    ∃ ch', (s.readSample d ch z).read = .sampling { d with count := d.count + 1 } ch' := by
  unfold State.readSample
  dsimp only
  split <;> exact ⟨_, rfl⟩

theorem afterSamples_moving (s : State) (z : Samples) : Moving (afterSamples s z) ↔ Moving s := by
  rw [moving_congr (afterSamples_only s z).line_eq]
  exact woken_moving (started s).line

theorem afterSamples_level (s : State) (z : Samples) : (afterSamples s z).level .r = s.cells[(1 : Fin 11)] := by
  rw [level_r, (afterSamples_only s z).cells_eq, (started s).only.cells_eq]

/-- A step whose read stays within MaxPiece abandons nothing. -/
theorem abandonIfDue_of_unabandoned {s : State} (z : Samples) (kept : Unabandoned s) :
    (afterSamples s z).abandonIfDue = afterSamples s z := by
  refine abandonIfDue_of_other fun d ch read moving level => ?_
  have going := (afterSamples_moving s z).mp moving
  have blocked := (afterSamples_level s z).symm.trans level
  cases before : s.read with
  | idle =>
    rw [afterSamples_idle z going blocked before, (started s).only.read_eq, before] at read
    cases read
  | overrun c =>
    rw [afterSamples_overrun z going blocked before] at read
    cases read
  | sampling c bh =>
    obtain ⟨ch', sampled⟩ := readSample_read (beforeSamples s) c bh z
    rw [← afterSamples_sampling z going blocked before, read] at sampled
    cases sampled
    exact kept c bh before going blocked

end Sys2Proof.Proofs
end

section
/-! PROOFS. A jam: every record held, its length and mark settled, the heads emptied, the command in flight ended (R26, R45, R71, R107, R117, R148, R149). -/

-- The proofs are elaborated one after another: the check gives each thread a large stack within a fixed memory.
set_option Elab.async false

namespace Sys2Proof.Proofs

open Sys2Proof.Machine
open Sys2Proof.Claims

/-- A port of which at most the notices have changed. -/
theorem Only.port_flagged {fs : List Part} {s t : State} (only : Only fs s t) (x : PortId)
    (absent : ∀ p ∈ portParts x, p ≠ .flags x → p ∉ fs := by simp) : t.port x = flagged (s.port x) (t.port x).flags := by
  have same (p : Part) (mem : p ∈ portParts x) (other : p ≠ .flags x) : p.Same s t := only p (absent p mem other)
  have parts : (t.port x).ring = (s.port x).ring ∧ (t.port x).inFlight = (s.port x).inFlight ∧
      (t.port x).code = (s.port x).code ∧ (t.port x).xdone = (s.port x).xdone ∧ (t.port x).xcall = (s.port x).xcall ∧
      (t.port x).mask = (s.port x).mask ∧ (t.port x).held = (s.port x).held ∧ (t.port x).out = (s.port x).out :=
    ⟨same (.ring x) (by simp) nofun, same (.flight x) (by simp) nofun, same (.code x) (by simp) nofun,
      same (.xdone x) (by simp) nofun, same (.xcall x) (by simp) nofun, same (.mask x) (by simp) nofun,
      same (.held x) (by simp) nofun, same (.out x) (by simp) nofun⟩
  revert parts
  generalize t.port x = q
  generalize s.port x = p
  cases q
  cases p
  simp_all [flagged]

/-! ### Marks settled by a jam (R107) -/

/-- Record `r` with its mark settled, if reservation `o` still owes it one. -/
def remarked (o : Option Reservation) (m : Mark) (r : Record) : Record :=
  { r with mark := if owed o r.tag = true then some m else r.mark }

theorem remarked_unowed {o : Option Reservation} (unowed : ∀ t, owed o t = false) (m : Mark) (l : List Record) :
    l.map (remarked o m) = l := by
  refine (List.map_congr_left fun r _ => ?_).trans (List.map_id' l)
  rw [remarked, unowed]
  rfl

theorem owed_cut {a : Reservation} (cut : a.cut = true) (t : Tag) : owed (some a) t = false := by simp [owed, cut]

theorem owed_unlinked {a : Reservation} (unlinked : a.linked = false) (t : Tag) : owed (some a) t = false := by
  simp [owed, unlinked]

/-- The outcome of an uncut reservation is its record's mark, if it is still linked. -/
theorem outcome_track {a : Reservation} (s : State) (m : Mark) (uncut : a.cut = false) :
    (s.outcome a m).track = s.track.map (remarked (some a) m) := by
  unfold State.outcome
  cases linked : a.linked with
  | false => exact (remarked_unowed (owed_unlinked linked) m _).symm
  | true =>
    refine (updTrack_eq_map _ _ _).trans (List.map_congr_left fun r _ => ?_)
    by_cases own : r.tag = a.holder
    · have owes : owed (some a) r.tag = true := by simp [owed, linked, uncut, own]
      rw [if_pos own, remarked, if_pos owes]
    · have unowed : owed (some a) r.tag = false := by simp [owed, Ne.symm own]
      rw [if_neg own, remarked, unowed]
      rfl

theorem settleUnbegun_jam (s : State) (a : Reservation) :
    Only [.track] s (s.settleUnbegun true a) ∧
      (s.settleUnbegun true a).track = s.track.map (remarked (some a) (.uncancelled .jam)) := by
  unfold State.settleUnbegun
  cases cut : a.cut with
  | true => exact ⟨Only.refl _ s, (remarked_unowed (owed_cut cut) _ _).symm⟩
  | false => exact ⟨outcome_only s a _, outcome_track s _ cut⟩

/-- How many marks a head in state `d.state` gives a jam to count for `st`: its Active, if that is not cut. -/
def countedAt (d : Head) (st : HeadState) : Nat :=
  match d.active with
  | none => 0
  | some a => if d.state = st ∧ a.cut = false then 1 else 0

/-- What a jam's settling of one slot does: marks, and the two counters of a jam. -/
structure Settles (s t : State) (mark : Record → Record) (incomplete done : Nat) : Prop where
  only       : Only (.track :: countParts) s t
  told       : Ledger [.incompleteMarks, .cancelled] 0 s t
  track      : t.track = s.track.map mark
  incomplete : t.tally .incompleteMarks = gained s .incompleteMarks incomplete
  done       : t.tally .cancelled = gained s .cancelled done

theorem settles_quietly {s t : State} {mark : Record → Record} (only : Only [.track] s t)
    (track : t.track = s.track.map mark) : Settles s t mark 0 0 where
  only := only.within
  told := only.ledger.within
  track := track
  incomplete := only.ledger.others _ (by simp)
  done := only.ledger.others _ (by simp)

theorem settles_trans {s t u : State} {f g : Record → Record} {i j m n : Nat} (st : Settles s t f i m)
    (tu : Settles t u g j n) : Settles s u (g ∘ f) (i + j) (m + n) where
  only := (st.only.trans tu.only).within
  told := (st.told.trans tu.told).within
  track := by rw [tu.track, st.track, List.map_map]
  incomplete := by rw [tu.incomplete, gained_gained st.incomplete]
  done := by rw [tu.done, gained_gained st.done]

theorem settleActive_jam (s : State) (d : Head) (a : Reservation) (active : d.active = some a) :
    Settles s (s.settleActive true d.state a) (remarked (some a) (jamActive d)) (countedAt d .marking)
      (countedAt d .recovering) := by
  have unbegun (early : d.state = .free ∨ d.state = .offline) :
      Settles s (s.settleUnbegun true a) (remarked (some a) (jamActive d)) (countedAt d .marking)
        (countedAt d .recovering) := by
    obtain ⟨only, track⟩ := settleUnbegun_jam s a
    have mark : jamActive d = .uncancelled .jam := by rcases early with state | state <;> simp [jamActive, state]
    have none (st : HeadState) (other : st = .marking ∨ st = .recovering) : countedAt d st = 0 := by
      rcases early with state | state <;> rcases other with rfl | rfl <;> simp [countedAt, active, state]
    rw [mark, none .marking (.inl rfl), none .recovering (.inr rfl)]
    exact settles_quietly only track
  unfold State.settleActive
  cases cut : a.cut with
  | true =>
    have none (st : HeadState) : countedAt d st = 0 := by simp [countedAt, active, cut]
    rw [none, none]
    exact settles_quietly (Only.refl _ s) (remarked_unowed (owed_cut cut) _ _).symm
  | false =>
    rw [if_neg Bool.false_ne_true]
    cases state : d.state with
    | offline => exact unbegun (.inr state)
    | free => exact unbegun (.inl state)
    | marking =>
      have settled := outcome_only s a .incomplete
      have counted := bump_ledger (s.outcome a .incomplete) .incompleteMarks
      rw [show jamActive d = .incomplete by simp [jamActive, state],
        show countedAt d .marking = 1 by simp [countedAt, active, state, cut],
        show countedAt d .recovering = 0 by simp [countedAt, active, state]]
      refine ⟨(settled.trans (bump_only _ .incompleteMarks)).within, (settled.ledger.trans counted).within, ?_, ?_, ?_⟩
      · exact (bump_only _ .incompleteMarks).track_eq.trans (outcome_track s _ cut)
      · exact (bump_tally_self _ _).trans (raised_congr (settled.ledger.others _ (by simp)) 1)
      · exact (settled.ledger.trans counted).others _ (by simp)
    | recovering =>
      have settled := outcome_only s a .done
      have counted := bump_ledger (s.outcome a .done) .cancelled
      rw [show jamActive d = .done by simp [jamActive, state],
        show countedAt d .marking = 0 by simp [countedAt, active, state],
        show countedAt d .recovering = 1 by simp [countedAt, active, state, cut]]
      refine ⟨(settled.trans (bump_only _ .cancelled)).within, (settled.ledger.trans counted).within, ?_, ?_, ?_⟩
      · exact (bump_only _ .cancelled).track_eq.trans (outcome_track s _ cut)
      · exact (settled.ledger.trans counted).others _ (by simp)
      · exact (bump_tally_self _ _).trans (raised_congr (settled.ledger.others _ (by simp)) 1)

/-- A record's mark after both slots of a head are settled. -/
def headMark (d : Head) (r : Record) : Record := remarked d.pending (.uncancelled .jam) (remarked d.active (jamActive d) r)

theorem remarked_none (m : Mark) (l : List Record) : l.map (remarked none m) = l := remarked_unowed (fun _ => rfl) m l

theorem settleSlot_active (s : State) (d : Head) :
    Settles s (s.settleSlot (fun s a => s.settleActive true d.state a) d.active) (remarked d.active (jamActive d))
      (countedAt d .marking) (countedAt d .recovering) := by
  cases active : d.active with
  | none =>
    have none (st : HeadState) : countedAt d st = 0 := by simp [countedAt, active]
    rw [none, none]
    exact settles_quietly (Only.refl _ s) (remarked_none _ _).symm
  | some a => exact settleActive_jam s d a active

theorem settleSlot_pending (s : State) (o : Option Reservation) :
    Settles s (s.settleSlot (fun s a => s.settleUnbegun true a) o) (remarked o (.uncancelled .jam)) 0 0 := by
  cases o with
  | none => exact settles_quietly (Only.refl _ s) (remarked_none _ _).symm
  | some a => exact settles_quietly (settleUnbegun_jam s a).1 (settleUnbegun_jam s a).2

theorem settleHead_jam (s : State) (h : HeadId) :
    Settles s (s.settleHead true h) (headMark (s.head h)) (countedAt (s.head h) .marking)
      (countedAt (s.head h) .recovering) :=
  settles_trans (settleSlot_active s (s.head h)) (settleSlot_pending _ _)

/-- One head at a jam (R107). -/
theorem jamHead_parts (s : State) (h : HeadId) :
    Ledger [.incompleteMarks, .cancelled] 0 s (s.jamHead h) ∧
      (s.jamHead h).track = s.track.map (headMark (s.head h)) ∧ (s.jamHead h).head h = headAtJam (s.head h) ∧
      (s.jamHead h).tally .incompleteMarks = gained s .incompleteMarks (countedAt (s.head h) .marking) ∧
      (s.jamHead h).tally .cancelled = gained s .cancelled (countedAt (s.head h) .recovering) := by
  obtain ⟨-, told, track, incomplete, done⟩ := settleHead_jam s h
  have set := setHead_only (s.settleHead true h) h (emptiedHead (s.head h).state.afterJam)
  refine ⟨(told.trans set.ledger).within, set.track_eq.trans track, State.setHead_head _ h _, ?_, ?_⟩
  · exact (set.ledger.others _ (by simp)).trans incomplete
  · exact (set.ledger.others _ (by simp)).trans done

/-- Both heads at a jam. -/
theorem jamHeads_parts (s : State) :
    let t := (s.jamHead .high).jamHead .low
    Ledger [.incompleteMarks, .cancelled] 0 s t ∧ t.track = s.track.map (headMark s.headLow ∘ headMark s.headHigh) ∧
      t.headHigh = headAtJam s.headHigh ∧ t.headLow = headAtJam s.headLow ∧
      t.tally .incompleteMarks = gained s .incompleteMarks (headsAt s .marking) ∧
      t.tally .cancelled = gained s .cancelled (headsAt s .recovering) := by
  obtain ⟨toldHigh, trackHigh, high, incompleteHigh, doneHigh⟩ := jamHead_parts s .high
  obtain ⟨toldLow, trackLow, low, incompleteLow, doneLow⟩ := jamHead_parts (s.jamHead .high) .low
  have kept : (s.jamHead .high).head .low = s.headLow := (jamHead_only s .high).head_eq .low
  rw [kept] at trackLow low incompleteLow doneLow
  refine ⟨(toldHigh.trans toldLow).within, ?_, ?_, low, ?_, ?_⟩
  · rw [trackLow, trackHigh, List.map_map]
    rfl
  · exact (jamHead_only (s.jamHead .high) .low).headHigh_eq.trans high
  · rw [incompleteLow, gained_gained incompleteHigh]
    rfl
  · rw [doneLow, gained_gained doneHigh]
    rfl

/-! ### The record being read, and the command in flight (R26, R45, R71) -/

theorem jamRead_track (s : State) : s.jamRead.track = s.track.map fun r => { r with lp := lengthAtJam s r } := by
  have fixed (d : Reading) (r : Record) :
      (if r.tag = d.tag then { r with lp := some d.count } else r) =
        { r with lp := if d.tag = r.tag then some d.count else r.lp } := by
    by_cases own : r.tag = d.tag
    · rw [if_pos own, if_pos own.symm]
    · rw [if_neg own, if_neg (Ne.symm own)]
  unfold State.jamRead lengthAtJam
  cases s.read with
  | idle => exact (List.map_id' _).symm
  | sampling d ch => exact (updTrack_eq_map _ _ _).trans (List.map_congr_left fun r _ => fixed d r)
  | overrun d => exact (updTrack_eq_map _ _ _).trans (List.map_congr_left fun r _ => fixed d r)

/-- The end of the induction at a port that has been told of the jam (R45). -/
theorem jamInduction_feed {s : State} {p : Port} (told : s.portF = flagged p (p.flags ||| 1)) :
    s.jamInduction.portF = feedAtJam p := by
  have kinds : s.flight .feed = p.inFlight.map InFlight.kind := by rw [State.flight, State.port, told]; rfl
  have flight : (({ s with release := .none } : State).port .feed).inFlight = p.inFlight := by
    rw [State.port, told]
    rfl
  have ends {kind : Flight} {call : Bool} (here : p.inFlight = some { kind := kind, call := call }) :
      (State.completeFlight { s with release := .none } .feed .jammed).portF =
        flagged { p with inFlight := none, code := .jammed, xdone := true, xcall := call } (p.flags ||| 1) := by
    rw [completeFlight_of_flight (flight.trans here)]
    show Port.complete s.portF .jammed call = _
    rw [told]
    rfl
  have kinds' : ({ s with release := .none } : State).flight .feed = p.inFlight.map InFlight.kind := kinds
  unfold State.jamInduction
  simp only [kinds']
  cases here : p.inFlight with
  | none =>
    simp only [Option.map_none, feedAtJam, here]
    exact told
  | some f =>
    obtain ⟨kind, call⟩ := f
    cases kind with
    | release =>
      simp only [Option.map_some, feedAtJam, here]
      exact ends here
    | drain =>
      simp only [Option.map_some, feedAtJam, here]
      exact ends here
    | loadMark | swapTray | readTallies | readBytes =>
      simp only [Option.map_some, feedAtJam, here]
      exact told

/-! ### The jam as a whole -/

/-- With its heads emptied no bank is referenced: a LOAD MARK is past its reference wait (R117). -/
theorem settle_load {u : State} (quiet : ∀ x, (u.port x).held = none) (high : u.headHigh.active = none ∧ u.headHigh.pending = none)
    (low : u.headLow.active = none ∧ u.headLow.pending = none) {l : Load} {call : Bool}
    (flight : u.portP.inFlight = some { kind := .loadMark l, call := call }) :
    u.settle.portP.inFlight = some
      { kind := .loadMark (if l.phase = .wait then { l with phase := .block l.count 0 none } else l), call := call } := by
  have free : ¬ Referenced u l := by
    rintro ⟨h, a, here, -⟩
    have empty : (u.head h).active = none ∧ (u.head h).pending = none := by cases h <;> assumption
    rcases here with active | pending
    · rw [empty.1] at active
      cases active
    · rw [empty.2] at pending
      cases pending
  have kind : u.flight .print = some (.loadMark l) := by rw [State.flight, State.port, flight]; rfl
  rw [settle_print quiet]
  by_cases wait : l.phase = .wait
  · rw [if_pos wait, finishWait_of_due kind wait free,
      setFlight_of_flight (x := .print) (k := .loadMark l) (call := call) flight]
    rfl
  · rw [if_neg wait, finishWait_of_not_due, flight]
    rintro ⟨l', kind', wait', -⟩
    obtain rfl := Flight.loadMark.inj (Option.some.inj (kind.symm.trans kind'))
    exact wait wait'

/-- A jam's outcome from its frame and its counters. -/
theorem jamOutcome_of_parts {s u : State} {cause : JamCause} {cell : Cell}
    (frame : u =
      { s with
        line := .jammed, jamCause := cause, jamCell := some cell, release := .none, read := .idle
        track := s.track.map fun r =>
          { r with stage := .held, next := none, lp := lengthAtJam s r, mark := markAtJam s r }
        headHigh := headAtJam s.headHigh, headLow := headAtJam s.headLow
        gates := Vector.replicate 6 { isOpen := false, windows := [], hold := none }
        stallTimer := { count := 0, dormant := false }, live := u.live, portF := feedAtJam s.portF
        portP := flagged s.portP (s.portP.flags ||| 1)
        portS := flagged s.portS (s.portS.flags ||| 1 ||| saturation s u) })
    (jams : u.tally .jams = raised s .jams 1)
    (incomplete : u.tally .incompleteMarks = gained s .incompleteMarks (headsAt s .marking))
    (done : u.tally .cancelled = gained s .cancelled (headsAt s .recovering))
    (stray : u.tally .strayEdges = gained s .strayEdges (if cause = .stray then 1 else 0))
    (others : ∀ v, v ∉ [Tally.jams, .strayEdges, .incompleteMarks, .cancelled] → u.tally v = s.tally v) :
    JamOutcome s u cause cell where
  frame := frame
  jams := jams
  counted := ⟨incomplete, done, stray, others⟩
  load := by
    rintro ⟨heldF, heldP, heldS⟩ l call flight
    have feed : (feedAtJam s.portF).held = s.portF.held := by
      unfold feedAtJam
      dsimp only
      split <;> rfl
    refine settle_load (fun x => ?_) ?_ ?_ ?_
    · rw [frame]
      cases x
      · exact feed.trans heldF
      · exact heldP
      · exact heldS
    · rw [frame]
      exact ⟨rfl, rfl⟩
    · rw [frame]
      exact ⟨rfl, rfl⟩
    · rw [frame]
      exact flight

/-- A state as another with the parts a jam may change taken over. -/
def onJam (s t : State) : State :=
  { s with
    line := t.line, jamCause := t.jamCause, jamCell := t.jamCell, release := t.release, read := t.read, track := t.track
    headHigh := t.headHigh, headLow := t.headLow, gates := t.gates, stallTimer := t.stallTimer, live := t.live
    portF := t.portF, portP := flagged s.portP t.portP.flags, portS := flagged s.portS t.portS.flags }

theorem eq_onJam {s t : State} (only : Only jamParts s t) : t = onJam s t := by
  refine eq_of_parts fun p => ?_
  have same := only p
  cases p
  case head h => cases h <;> rfl
  case ring x | flight x | code x | xdone x | xcall x | mask x | held x | out x =>
    cases x
    · rfl
    · exact same (by simp)
    · exact same (by simp)
  case flags x => cases x <;> rfl
  case line | jamCause | jamCell | release | read | track | tags | routes | stages | gates | stallTimer | live => rfl
  all_goals exact same (by simp)

theorem enterJam_parts (s : State) (cause : JamCause) (cell : Cell) :
    (s.enterJam cause cell).line = .jammed ∧ (s.enterJam cause cell).jamCause = cause ∧
      (s.enterJam cause cell).jamCell = some cell ∧
      (s.enterJam cause cell).portF.flags = s.portF.flags ||| 1 ∧
      (s.enterJam cause cell).portP.flags = s.portP.flags ||| 1 ∧
      (s.enterJam cause cell).tally .jams = raised s .jams 1 := by
  obtain ⟨d, enters⟩ : ∃ d : State, d = { s with line := .jammed, jamCause := cause, jamCell := some cell } := ⟨_, rfl⟩
  have counted := bump_only d .jams
  have told := ((raise_only (d.bump .jams) .feed .jam).trans (raise_only _ .print .jam)).trans (raise_only _ .super .jam)
  have shape : s.enterJam cause cell = (((d.bump .jams).raise .feed .jam).raise .print .jam).raise .super .jam := by
    rw [enters]
    rfl
  rw [shape]
  refine ⟨?_, ?_, ?_, ?_, ?_, ?_⟩
  · rw [(counted.trans told).line_eq, enters]
  · rw [show _ = d.jamCause from (counted.trans told) .jamCause (by simp), enters]
  · rw [show _ = d.jamCell from (counted.trans told) .jamCell (by simp), enters]
  · have flags : ((d.bump .jams).raise .feed .jam).portF.flags = d.portF.flags ||| 1 := by
      rw [← counted.feedFlags_eq]
      rfl
    have rest := (raise_only ((d.bump .jams).raise .feed .jam) .print .jam).trans (raise_only _ .super .jam)
    rw [rest.feedFlags_eq, flags, enters]
  · have before := counted.trans (raise_only (d.bump .jams) .feed .jam)
    have flags : (((d.bump .jams).raise .feed .jam).raise .print .jam).portP.flags = d.portP.flags ||| 1 := by
      rw [← before.printFlags_eq]
      rfl
    rw [(raise_only _ .super .jam).printFlags_eq, flags, enters]
  · rw [raise_tally, raise_tally, raise_tally, bump_tally_self, enters]
    rfl

/-- The jam of `b`, which is `s` but for a stray edge counted. -/
theorem jam_outcome {s b : State} {cause : JamCause} (cell : Cell) (only : Only countParts s b)
    (told : Ledger [.strayEdges] 0 s b) (stray : b.tally .strayEdges = gained s .strayEdges (if cause = .stray then 1 else 0)) :
    JamOutcome s (b.jam cause cell) cause cell := by
  obtain ⟨line, causes, cells, feed, print, jams⟩ := enterJam_parts b cause cell
  obtain ⟨e, enters⟩ : ∃ e, e = b.enterJam cause cell := ⟨_, rfl⟩
  have first := enterJam_only b cause cell
  have toldFirst := enterJam_ledger b cause cell
  rw [← enters] at line causes cells feed print jams first toldFirst
  obtain ⟨v, reads⟩ : ∃ v, v = e.jamRead := ⟨_, rfl⟩
  have second : Only [.track, .read] e v := reads ▸ jamRead_only e
  obtain ⟨w, heads⟩ : ∃ w, w = (v.jamHead .high).jamHead .low := ⟨_, rfl⟩
  have third := (jamHead_only v .high).trans (jamHead_only _ .low)
  obtain ⟨toldThird, track, high, low, incomplete, done⟩ := jamHeads_parts v
  rw [← heads] at third toldThird track high low incomplete done
  obtain ⟨x, holds⟩ : ∃ x : State,
      x = { w with track := w.track.map Record.held, gates := closedGates, stallTimer := stoppedTimer } := ⟨_, rfl⟩
  have fourth := holdTrack_only w
  rw [← holds] at fourth
  obtain ⟨u, ends⟩ : ∃ u, u = x.jamInduction := ⟨_, rfl⟩
  have fifth : Only (.release :: endParts .feed) x u := ends ▸ jamInduction_only x
  have jammed : b.jam cause cell = u := by rw [ends, holds, heads, reads, enters]; rfl
  have before := (only.trans first).trans second
  have rest := (third.trans fourth).trans fifth
  have whole : Only jamParts s u := (before.trans rest).within
  have toldRest : Ledger [.incompleteMarks, .cancelled] 0 e u :=
    (((second.ledger.trans toldThird).trans fourth.ledger).trans fifth.ledger).within
  have toldAll : Ledger [.strayEdges, .jams, .incompleteMarks, .cancelled] 1 s u :=
    ((told.trans toldFirst).trans toldRest).within
  have kept (c : Tally) (other : c ∉ [Tally.incompleteMarks, .cancelled]) : u.tally c = e.tally c := toldRest.others c other
  have base (c : Tally) (other : c ∉ [Tally.strayEdges, .jams]) : v.tally c = s.tally c :=
    ((told.trans toldFirst).trans second.ledger).others c (by simpa using other)
  have heads_ : v.headHigh = s.headHigh ∧ v.headLow = s.headLow := ⟨before.headHigh_eq, before.headLow_eq⟩
  have headsAt_ (st : HeadState) : headsAt v st = headsAt s st := by rw [headsAt, headsAt, heads_.1, heads_.2]
  have after := fourth.ledger.trans fifth.ledger
  rw [jammed]
  refine jamOutcome_of_parts ?_ ?_ ?_ ?_ ?_ fun c other => ?_
  · have tracked : u.track = s.track.map fun r =>
        { r with stage := .held, next := none, lp := lengthAtJam s r, mark := markAtJam s r } := by
      have lengths (r : Record) : lengthAtJam e r = lengthAtJam s r := by
        rw [lengthAtJam, lengthAtJam, (only.trans first).read_eq]
      rw [fifth.track_eq, holds, track, heads_.1, heads_.2, reads, jamRead_track, (only.trans first).track_eq,
        List.map_map, List.map_map]
      refine List.map_congr_left fun r _ => ?_
      simp only [Function.comp_apply, lengths]
      rfl
    have unread : u.read = .idle := (rest.read_eq).trans (by rw [reads]; exact jamRead_read e)
    have released : u.release = .none := by rw [ends]; exact jamInduction_release x
    have portF : u.portF = feedAtJam s.portF := by
      have told : x.portF.flags = s.portF.flags ||| 1 := by
        rw [((second.trans third).trans fourth).feedFlags_eq, feed, only.feedFlags_eq]
      rw [ends]
      refine jamInduction_feed ?_
      rw [← told]
      exact ((before.trans third).trans fourth).port_flagged .feed
    have portP : u.portP.flags = s.portP.flags ||| 1 := by
      rw [(second.trans rest).printFlags_eq, print, only.printFlags_eq]
    have gates : u.gates = Vector.replicate 6 { isOpen := false, windows := [], hold := none } := by
      rw [fifth.gates_eq, holds]
      rfl
    have timer : u.stallTimer = { count := 0, dormant := false } := by
      rw [fifth.timer_eq, holds]
      rfl
    have caused : u.jamCause = cause := Eq.trans ((second.trans rest) .jamCause (by simp)) causes
    have celled : u.jamCell = some cell := Eq.trans ((second.trans rest) .jamCell (by simp)) cells
    refine (eq_onJam whole).trans ?_
    simp only [onJam, (second.trans rest).line_eq, line, tracked, unread, released, portF, portP, toldAll.flags, gates, timer,
      (fourth.trans fifth).headHigh_eq, high, (fourth.trans fifth).headLow_eq, low, heads_,
      caused, celled]
  · rw [kept .jams (by simp), jams]
    exact raised_congr (told.others _ (by simp)) 1
  · rw [after.others _ (by simp), incomplete, gained_congr (base _ (by simp)), headsAt_]
  · rw [after.others _ (by simp), done, gained_congr (base _ (by simp)), headsAt_]
  · rw [kept .strayEdges (by simp), toldFirst.others _ (by simp), stray]
  · exact toldAll.others c (by simpa [and_left_comm] using other)

/-! ### Stray lead edges (R10, R44) -/

section
variable {s : State} {x : Cell}

theorem judgeLead_i_ungranted (moving : Moving s) (ungranted : s.release = .none ∨ s.release = .waiting) :
    s.judgeLead .i = s.strayJam .i := by
  have atI : s.judgeLead .i = s.leadAtI := by
    obtain line | line := moving <;> simp only [State.judgeLead, line, if_true]
  rw [atI]
  obtain release | release := ungranted <;> simp only [State.leadAtI, release]

theorem judgeLead_unexpected (moving : Moving s) (notI : x ≠ .i) (none : ∀ r ∈ s.track, r.next ≠ some x) :
    s.judgeLead x = s.strayJam x := by
  have absent : s.oldestAt x = .none := List.find?_eq_none.mpr fun r mem => by simpa using none r mem
  rw [judgeLead_elsewhere moving notI]
  simp only [State.matchEdge, absent]

theorem judgeLead_early {older younger : List Record} {r : Record} (moving : Moving s) (notI : x ≠ .i)
    (track : s.track = older ++ r :: younger) (first : ∀ q ∈ older, q.next ≠ some x) (next : r.next = some x)
    (early : atOrAfter s.pos (r.anchor + BitVec.ofNat 16 (cellPosition s.params.geo x) -
      BitVec.ofNat 16 s.params.geo.tol) = false) : s.judgeLead x = s.strayJam x := by
  rw [judgeLead_elsewhere moving notI]
  simp only [State.matchEdge, oldestAt_eq track first next]
  exact if_neg (Bool.eq_false_iff.mp early)

/-- A stray edge counts and jams. -/
theorem strayJam_outcome (s : State) (x : Cell) : JamOutcome s (s.strayJam x) .stray x :=
  jam_outcome x (bump_only s .strayEdges) (bump_ledger s .strayEdges) (bump_tally_self s .strayEdges)

end

/-- Settles O27: each of the three edges is judged stray. -/
theorem strayEdgeJamsTheLine : Obligations.StrayEdgeJamsTheLine := by
  intro s x moving was stray
  have edge : s.lead x = (seen s x .blocked).strayJam x := by
    rw [lead_of_clear was]
    rcases stray with ⟨rfl, ungranted⟩ | ⟨notI, none | ⟨older, r, younger, track, first, next, early⟩⟩
    · exact judgeLead_i_ungranted (s := seen s .i .blocked) moving ungranted
    · exact judgeLead_unexpected (s := seen s x .blocked) moving notI none
    · exact judgeLead_early (s := seen s x .blocked) moving notI track first next early
  exact ⟨_, congrArg (fun t : State => Host.Outcome.next t.settle) edge, strayJam_outcome _ x⟩

end Sys2Proof.Proofs
end

section
/-! PROOFS. A missing record jams the line: behind the jam the rest of the encoder step finds nothing to do but to retire the last reservation (R11, R86). -/

-- The proofs are elaborated one after another: the check gives each thread a large stack within a fixed memory.
set_option Elab.async false

namespace Sys2Proof.Proofs

open Sys2Proof.Machine
open Sys2Proof.Claims

/-! ### The blocks of a jammed line -/

theorem setHead_self (s : State) (h : HeadId) : s.setHead h (s.head h) = s := by cases h <;> rfl

theorem stepHead_still {s : State} {h : HeadId} (empty : (s.head h).active = none) (dark : (s.head h).dark = s.head h) :
    s.stepHead h = s := by
  rw [stepHead_empty empty, dark, setHead_self]

theorem stepGates_of_closed {s : State} (closed : s.gates = closedGates) : s.stepGates = s := by
  have shape : s.stepGates = { s with gates := s.stepGates.gates } := rfl
  rw [shape, stepGates_closed closed, ← closed]

theorem useSamples_jammed (s : State) (z : Samples) : s.useSamples .jammed z = s := by
  unfold State.useSamples
  split
  · exact if_neg (by simp)
  · exact if_neg (by simp)

theorem stepFlip_still {s : State} (still : ¬ Moving s) : s.stepFlip = s := if_neg (mt (moving_iff s).mp still)

theorem abandonIfDue_unread {s : State} (read : s.read = .idle) : s.abandonIfDue = s :=
  abandonIfDue_of_other fun d ch sampling => by rw [read] at sampling; cases sampling

/-- A jammed line with its heads emptied and its gates closed retires a passed last reservation, and that is all. -/
theorem blocksStep_jammed {j : State} (z : Samples) (line : j.line = .jammed) (release : j.release = .none)
    (read : j.read = .idle) (high : ∃ d, j.headHigh = headAtJam d) (low : ∃ d, j.headLow = headAtJam d)
    (gates : j.gates = closedGates) : j.wake.blocksStep j.line z = j.retire := by
  have only := retire_only j
  have awake : j.wake = j := if_neg (by rw [line]; decide)
  have granted : j.retire.expireGrant = j.retire := expireGrant_of_none (.inl (only.release_eq.trans release))
  have heads : j.retire.stepHeads = j.retire := by
    have first : j.retire.stepHead .high = j.retire := by
      obtain ⟨d, emptied⟩ := high
      have head : j.retire.head .high = headAtJam d := (only.head_eq .high).trans emptied
      exact stepHead_still (by rw [head]; rfl) (by rw [head]; rfl)
    have second : j.retire.stepHead .low = j.retire := by
      obtain ⟨d, emptied⟩ := low
      have head : j.retire.head .low = headAtJam d := (only.head_eq .low).trans emptied
      exact stepHead_still (by rw [head]; rfl) (by rw [head]; rfl)
    rw [State.stepHeads, first, second]
  have still : ¬ Moving j.retire := by
    rw [Moving, only.line_eq, line]
    decide
  rw [awake, line, State.blocksStep, granted, useSamples_jammed, abandonIfDue_unread (only.read_eq.trans read), heads,
    stepFlip_still still, stepGates_of_closed (only.gates_eq.trans gates)]

/-! ### The jam of a missing record -/

theorem missingCheck_jams {s : State} {older younger : List Record} {r : Record} {x : Cell} (moving : Moving s)
    (track : s.track = older ++ r :: younger) (first : ∀ q ∈ older, ¬ MissingAt s (s.pos + 1) q) (next : r.next = some x)
    (gone : MissingAt s (s.pos + 1) r) : s.advance.missingCheck = s.advance.jam .missing x := by
  have absent : older.find? s.advance.missing = none :=
    List.find?_eq_none.mpr fun q mem missing => first q mem ((missing_iff s q).mp missing)
  have found : s.advance.track.find? s.advance.missing = some r := by
    rw [show s.advance.track = older ++ r :: younger from track, List.find?_append, absent, Option.none_or,
      List.find?_cons_of_pos ((missing_iff s r).mpr gone)]
  have going : s.advance.moving = true := (moving_iff _).mpr moving
  simp only [State.missingCheck, if_pos going, found, next]

theorem retire_eq (s : State) : s.retire = { s with lastRes := retiredAt s.lastRes s.pos } := by
  rw [← retire_lastRes]
  exact eq_of_only (retire_only s) (setLast_only s _) fun p mem => by
    rw [List.mem_singleton] at mem
    subst mem
    rfl

theorem saturation_congr {s s' t t' : State} (before : s'.live = s.live) (after : t'.live = t.live) :
    saturation s' t' = saturation s t := by
  rw [saturation, saturation, before, after]

/-- What an encoder step makes of a line with a missing record. -/
theorem encoder_missing {s : State} (z : Samples) {older younger : List Record} {r : Record} {x : Cell} (moving : Moving s)
    (track : s.track = older ++ r :: younger) (first : ∀ q ∈ older, ¬ MissingAt s (s.pos + 1) q) (next : r.next = some x)
    (gone : MissingAt s (s.pos + 1) r) : s.encoder z = (s.advance.jam .missing x).retire := by
  have outcome : JamOutcome s.advance (s.advance.jam .missing x) .missing x :=
    jam_outcome x (Only.refl _ _) (Ledger.refl _ _) rfl
  obtain ⟨j, jams⟩ : ∃ j, j = s.advance.jam .missing x := ⟨_, rfl⟩
  rw [← jams] at outcome
  have frame := outcome.frame
  rw [State.encoder, missingCheck_jams moving track first next gone, ← jams]
  exact blocksStep_jammed z (by rw [frame]) (by rw [frame]) (by rw [frame]) ⟨s.headHigh, by rw [frame]; rfl⟩
    ⟨s.headLow, by rw [frame]; rfl⟩ (by rw [frame]; rfl)

/-- Settles O24: the jam, and the last reservation the step retires behind it. -/
theorem missingRecordJamsTheLine : Obligations.MissingRecordJamsTheLine := by
  intro s z older younger r x moving track first next gone
  obtain ⟨j, jams⟩ : ∃ j, j = s.advance.jam .missing x := ⟨_, rfl⟩
  obtain ⟨u, retires⟩ : ∃ u, u = j.retire := ⟨_, rfl⟩
  have outcome : JamOutcome s.advance j .missing x := jams ▸ jam_outcome x (Only.refl _ _) (Ledger.refl _ _) rfl
  obtain ⟨frame, counted, ⟨incomplete, done, stray, others⟩, -⟩ := outcome
  have steps : s.encoder z = u := by rw [encoder_missing z moving track first next gone, retires, jams]
  have only : Only [.lastRes] j u := retires ▸ retire_only j
  have kept (v : Tally) : u.tally v = j.tally v := only.ledger.others v (by simp)
  have last : u = { j with lastRes := retiredAt s.lastRes (s.pos + 1) } := by
    rw [retires, retire_eq, show j.lastRes = s.lastRes by rw [frame]; rfl, show j.pos = s.pos + 1 by rw [frame]; rfl]
  refine ⟨u, congrArg (fun t : State => Host.Outcome.next t.settle) steps, jamOutcome_of_parts ?_ ?_ ?_ ?_ ?_ fun v other => ?_⟩
  · have live : u.live = j.live := only.live_eq
    have reached : saturation { s with
        pos := s.pos + 1, gap := s.gap - 1, lastRes := retiredAt s.lastRes (s.pos + 1) } u = saturation s.advance j :=
      saturation_congr rfl live
    rw [reached, live]
    refine last.trans ?_
    conv_lhs => rw [frame]
    rfl
  · exact (kept _).trans counted
  · exact (kept _).trans incomplete
  · exact (kept _).trans done
  · exact (kept _).trans stray
  · exact (kept _).trans (others v other)

end Sys2Proof.Proofs
end

section
/-! PROOFS. An encoder step that jams nothing: its frame, the flip gate output, the training and the read samples (R46, R47, R55, R62, R84). -/

-- The proofs are elaborated one after another: the check gives each thread a large stack within a fixed memory.
set_option Elab.async false

namespace Sys2Proof.Proofs

open Sys2Proof.Machine
open Sys2Proof.Claims

/-! ### The frame of an encoder step -/

/-- Nothing before the samples raises TRAINED (bit 3). -/
theorem started_trained (s : State) : (beforeSamples s).portF.flags.getLsbD 3 = s.portF.flags.getLsbD 3 := by
  have start := started s
  by_cases misses : Misses s
  · rw [(start.missed misses).1, BitVec.getLsbD_or]
    exact Bool.or_false _
  · rw [(start.stands misses).1]

section
variable {s : State} (z : Samples)

/-- The heads meet, behind samples and abandonment, what they would meet at the new position alone. -/
theorem sameBeat_afterSamples (s : State) : SameBeat (stepped s) (afterSamples s z).abandonIfDue := by
  have only := ((started s).only.trans (afterSamples_only s z)).trans (abandonIfDue_quiet _)
  refine ⟨fun h => (only.head_eq h), ?_, only.store_eq⟩
  rw [((afterSamples_only s z).trans (abandonIfDue_quiet _)).pos_eq, (started s).pos]
  rfl

variable (calm : ¬ Moving s ∨ NoneMissing s)

/-- The parts an encoder step may change where it jams nothing. -/
abbrev stepParts : List Part :=
  [.pos, .gap, .stallTimer, .line, .training, .lastRes, .flags .feed, .release, .live, .flags .super, .baselines, .read,
    .track, .bins, .routes, .gates, .stages, .gateOut, .head .high, .head .low]

section
include calm

theorem encoder_calm_only : Only stepParts s (s.encoder z) := by
  rw [encoder_calm z calm]
  exact ((((((started s).only.trans (afterSamples_only s z)).trans (abandonIfDue_quiet _)).trans (stepHeads_only _)).trans
    (stepFlip_only _)).trans (stepGates_only _)).within

/-- The counters of the step behind its samples. -/
theorem encoder_calm_told :
    ∃ k, Ledger (.floodedPieces :: .cls k :: .cancelled :: planTallies) 0 (afterSamples s z) (s.encoder z) := by
  obtain ⟨k, told⟩ := abandonIfDue_ledger (afterSamples s z)
  have rest := ((stepHeads_ledger (afterSamples s z).abandonIfDue).trans (stepFlip_only _).ledger).trans (stepGates_only _).ledger
  rw [encoder_calm z calm]
  exact ⟨k, (told.trans rest).within⟩

theorem stepFrame_calm : StepFrame s (s.encoder z) := by
  obtain ⟨u, steps⟩ : ∃ u, u = s.encoder z := ⟨_, rfl⟩
  have only := encoder_calm_only z calm
  obtain ⟨k, toldRest⟩ := encoder_calm_told z calm
  have shape := encoder_calm z calm
  have sampled := afterSamples_only s z
  have quiet := abandonIfDue_quiet (afterSamples s z)
  have heads := stepHeads_only (afterSamples s z).abandonIfDue
  have gates := (stepFlip_only (afterSamples s z).abandonIfDue.stepHeads).trans (stepGates_only _)
  rw [← shape, ← steps] at gates
  rw [← steps] at only toldRest shape
  have start := started s
  have told : Ledger (.feedMisses :: .floodedPieces :: .cls k :: .cancelled :: planTallies) 0 s u :=
    ((start.told.trans sampled.ledger).trans toldRest).within
  obtain ⟨beat, counted, o, p, before, after, -⟩ := stepHeads_congr (sameBeat_afterSamples z s)
  have behind := (quiet.trans heads).trans gates
  rw [← steps]
  have feed : u.portF.flags = (afterSamples s z).portF.flags := behind.feedFlags_eq
  have unabandoned (kept : Unabandoned s) : (afterSamples s z).abandonIfDue = afterSamples s z :=
    abandonIfDue_of_unabandoned z kept
  constructor
  case frame =>
    have high : u.headHigh = (headsStepped s).headHigh := gates.headHigh_eq.trans (beat.head .high)
    have low : u.headLow = (headsStepped s).headLow := gates.headLow_eq.trans (beat.head .low)
    refine (eq_onBelt only).trans ?_
    simp only [onBelt, behind.pos_eq, sampled.pos_eq, start.pos, behind.gap_eq, sampled.gap_eq, start.gap, behind.timer_eq,
      sampled.timer_eq, start.timer, behind.line_eq, sampled.line_eq, start.line, high, low, only.store_eq, only.iOcc_eq,
      only.rOcc_eq, only.printFlags_eq, told.quiet_flags]
    rfl
  case release =>
    rw [ReleaseStepped, behind.release_eq, sampled.release_eq]
    exact start.release
  case notices =>
    rw [feed, afterSamples_feed]
    refine ⟨fun misses => ?_, fun other => by rw [(start.stands other).1]⟩
    rw [(start.missed misses).1, BitVec.or_assoc]
    rfl
  case belt =>
    intro rests
    have untrained := afterSamples_untrained z rests
    have still := (untrained.trans behind)
    refine ⟨?_, ?_, still.training_eq.trans start.training⟩
    · rw [still.baselines_eq, start.only.baselines_eq]
    · rw [still.feedFlags_eq, started_trained]
  case reader =>
    intro other
    have unread := afterSamples_unread z other
    have kept : Unabandoned s := fun d ch read moving blocked => by
      rcases other with trains | still
      · rw [trains.1] at blocked
        cases blocked
      · exact absurd moving still
    rw [gates.read_eq, heads.read_eq, unabandoned kept, unread]
  case marks =>
    rw [gates.ledger.others _ (by simp)]
    refine counted ?_
    obtain ⟨k', toldQuiet⟩ := abandonIfDue_ledger (afterSamples s z)
    rw [toldQuiet.others _ (by simp), sampled.ledger.others _ (by simp), start.told.others _ (by simp)]
    rfl
  case missed =>
    have same : u.tally .feedMisses = (beforeSamples s).tally .feedMisses :=
      (toldRest.others _ (by simp)).trans (sampled.ledger.others _ (by simp))
    rw [same]
    exact ⟨fun misses => (start.missed misses).2, fun other => (start.stands other).2⟩
  case counted =>
    intro kept v notMark notMiss
    have last := (stepHeads_ledger (afterSamples s z).abandonIfDue).trans gates.ledger
    rw [last.others v (by simpa using notMark), unabandoned kept, sampled.ledger.others v (by simp),
      start.told.others v (by simpa using notMiss)]
  case track =>
    intro kept
    have unmoved : (afterSamples s z).track = (stepped s).track := (start.only.trans sampled).track_eq
    refine ⟨?_, ?_⟩
    · rw [gates.track_eq, after, unabandoned kept, unmoved, ← before]
      rfl
    · rw [gates.bins_eq, heads.bins_eq, unabandoned kept, sampled.bins_eq, start.only.bins_eq]
  case gates =>
    intro kept
    refine ⟨?_, fun k => ?_⟩
    · rw [gates.lastRes_eq, heads.lastRes_eq, unabandoned kept, sampled.lastRes_eq, start.lastRes]
    · have reach := heads.trans (stepFlip_only _)
      rw [shape, stepGates_gates, reach.gates_eq, reach.pos_eq, unabandoned kept, sampled.gates_eq, start.only.gates_eq,
        sampled.pos_eq, start.pos]

end

end

/-- The read an encoder step leaves, where it abandons none. -/
theorem encoder_calm_read {s : State} (z : Samples) (calm : ¬ Moving s ∨ NoneMissing s) (kept : Unabandoned s) :
    (s.encoder z).read = (afterSamples s z).read := by
  have rest := ((stepHeads_only (afterSamples s z).abandonIfDue).trans (stepFlip_only _)).trans (stepGates_only _)
  rw [encoder_calm z calm, rest.read_eq, abandonIfDue_of_unabandoned z kept]

/-! ### The read samples (R62, R69) -/

theorem readSample_judges {s : State} {d : Reading} {ch : Vector Channel 8} (z : Samples)
    (short : d.count < d.latched.maxPiece) :
    (s.readSample d ch z).read = .sampling { d with count := d.count + 1 } (Vector.ofFn fun i =>
      let p := if i.val < 4 then d.latched.tag else d.latched.meter
      ch[i].sample p d.count ((z[i].toNat : Int) - ((s.baselines[i] + 8) / 16 : Nat) - p.t)) := by
  have within_ : ¬ d.latched.maxPiece < d.count + 1 := by omega
  simp only [State.readSample, if_neg within_, sampleChannels, excess, workingLevel, latchedOf_eq]

/-- Settles O25: the step's samples go to the read, if there is one. -/
theorem readSampleStepJudgesTheChannels : Obligations.ReadSampleStepJudgesTheChannels := by
  intro s z moving none blocked
  have calm : ¬ Moving s ∨ NoneMissing s := .inr none
  have frame := stepFrame_calm z calm
  have rests : ¬ Trains s := fun trains => by rw [trains.1] at blocked; cases blocked
  obtain ⟨baselines, -, training⟩ := frame.belt rests
  have awake : s.line ≠ .standby := by rcases moving with line | line <;> simp [line]
  have kept : (beforeSamples s).baselines = s.baselines := (started s).only.baselines_eq
  refine ⟨s.encoder z, rfl, baselines, training.trans (if_neg awake), fun d ch read short => ?_, fun d read => ?_,
    fun read => ?_, frame⟩
  · have stays : Unabandoned s := fun c bh same _ _ => by
      rw [read] at same
      cases same
      exact short
    rw [encoder_calm_read z calm stays, afterSamples_sampling z moving blocked read, readSample_judges z short, kept]
  · have stays : Unabandoned s := fun c bh same => by rw [read] at same; cases same
    rw [encoder_calm_read z calm stays, afterSamples_overrun z moving blocked read]
  · have stays : Unabandoned s := fun c bh same => by rw [read] at same; cases same
    rw [encoder_calm_read z calm stays, afterSamples_idle z moving blocked read, (started s).only.read_eq, read]

/-! ### The training step (R46, R47, R55) -/

theorem trainedBaseline_eq (b : Nat) (z : Byte) :
    (trainedBaseline b z : Int) = (b : Int) + Int.fdiv (16 * (z.toNat : Int) - b) 8 := by
  rw [trainedBaseline, Int.fdiv_eq_ediv_of_nonneg _ (by decide)]
  omega

theorem allTrained_iff (v : Vector Nat 8) : allTrained v = true ↔ ∀ i : Fin 8, v[i] = 64 := decide_eq_true_iff

theorem train_parts (s : State) (z : Samples) :
    (∀ i : Fin 8, (s.train z).baselines[i] = trainedBaseline s.baselines[i] z[i]) ∧
      ∀ i : Fin 8, (s.train z).training[i] = min (s.training[i] + 1) 64 := by
  unfold State.train
  dsimp only
  split
  · exact ⟨fun i => by simp [State.raise, noticeBit], fun i => by simp [State.raise, noticeBit, tabulate]⟩
  · exact ⟨fun i => by simp, fun i => by simp [tabulate]⟩

/-- TRAINED (bit 3) rises at the step that brings the counts to 64 (R47). -/
theorem train_feed (s : State) (z : Samples) :
    ((∀ i : Fin 8, s.training[i] = 63) → (s.train z).portF.flags.getLsbD 3 = true) ∧
      ∀ n, (∀ i : Fin 8, s.training[i] = n) → n < 63 ∨ n = 64 →
        (s.train z).portF.flags.getLsbD 3 = s.portF.flags.getLsbD 3 := by
  obtain ⟨t, trains⟩ : ∃ t : State, t = { s with
      baselines := Vector.ofFn fun i => trainedBaseline s.baselines[i] z[i]
      training := tabulate (fun n => min (n + 1) 64) s.training } := ⟨_, rfl⟩
  have shape : s.train z = if !allTrained s.training && allTrained t.training then t.raise .feed .trained else t := by
    rw [trains]
    rfl
  have flags : t.portF.flags = s.portF.flags := by rw [trains]
  have counts (i : Fin 8) : t.training[i] = min (s.training[i] + 1) 64 := by
    rw [trains]
    simp [tabulate]
  refine ⟨fun before => ?_, fun n same other => ?_⟩
  · have due : (!allTrained s.training && allTrained t.training) = true := by
      rw [Bool.and_eq_true, Bool.not_eq_true', Bool.eq_false_iff, ne_eq, allTrained_iff, allTrained_iff]
      refine ⟨fun all => ?_, fun i => by rw [counts, before]; rfl⟩
      have first := all 0
      rw [before 0] at first
      omega
    rw [shape, if_pos due]
    show (t.portF.flags ||| 8).getLsbD 3 = true
    rw [BitVec.getLsbD_or]
    exact Bool.or_true _
  · have quiet : (!allTrained s.training && allTrained t.training) = false := by
      rw [Bool.eq_false_iff, ne_eq, Bool.and_eq_true, Bool.not_eq_true', Bool.eq_false_iff, ne_eq, allTrained_iff,
        allTrained_iff]
      rintro ⟨untrained, trained⟩
      rcases other with below | full
      · have first := trained 0
        rw [counts, same] at first
        omega
      · exact untrained fun i => (same i).trans full
    rw [shape, quiet, if_neg Bool.false_ne_true, flags]

/-- Settles O23: the training step of the samples, in the frame of the encoder step. -/
theorem trainingStepAdjustsTheBaselines : Obligations.TrainingStepAdjustsTheBaselines := by
  intro s z clear lines
  have calm : ¬ Moving s ∨ NoneMissing s := by
    rcases lines with idle | ⟨-, none⟩
    · exact .inl fun moving => by rcases moving with line | line <;> rw [idle] at line <;> cases line
    · exact .inr none
  have trains : Trains s := ⟨clear, lines.imp_right fun both => both.1⟩
  have awake : s.line ≠ .standby := by
    rcases lines with line | ⟨line | line, -⟩ <;> simp [line]
  have start := started s
  have stays : Unabandoned s := fun d ch read _ blocked => by rw [clear] at blocked; cases blocked
  have rest : Only [.live, .flags .super, .track, .gateOut, .gates, .head .high, .head .low] ((beforeSamples s).train z)
      (s.encoder z) := by
    rw [encoder_calm z calm, abandonIfDue_of_unabandoned z stays, afterSamples_trains z trains]
    exact (((stepHeads_only _).trans (stepFlip_only _)).trans (stepGates_only _)).within
  have baselines : (beforeSamples s).baselines = s.baselines := start.only.baselines_eq
  have training : (beforeSamples s).training = s.training := start.training.trans (if_neg awake)
  obtain ⟨adjusted, counted⟩ := train_parts (beforeSamples s) z
  obtain ⟨reached, other⟩ := train_feed (beforeSamples s) z
  rw [training] at counted reached other
  refine ⟨s.encoder z, rfl, fun i => ?_, fun i => ?_, ?_, fun before => ?_, fun n same away => ?_, stepFrame_calm z calm⟩
  · rw [rest.baselines_eq, adjusted, baselines, trainedBaseline_eq]
  · rw [rest.training_eq, counted]
  · rw [encoder_calm_read z calm stays, afterSamples_unread z (.inl trains)]
  · rw [rest.feedFlags_eq, reached before]
  · rw [rest.feedFlags_eq, other n same away, started_trained]

end Sys2Proof.Proofs
end

section
/-! PROOFS. The encoder step in every state (R1, R14, R41, R51, R84, R91). -/

-- The proofs are elaborated one after another: the check gives each thread a large stack within a fixed memory.
set_option Elab.async false

namespace Sys2Proof.Proofs

open Sys2Proof.Machine
open Sys2Proof.Claims

/-! ### What every encoder step leaves -/

/-- An encoder step jams nothing, or the jam of its oldest missing record is all of it (R11). -/
theorem encoder_cases (s : State) (z : Samples) :
    (¬ Moving s ∨ NoneMissing s) ∨
      Moving s ∧ ¬ NoneMissing s ∧ ∃ x, s.encoder z = (s.advance.jam .missing x).retire := by
  by_cases calm : ¬ Moving s ∨ NoneMissing s
  · exact .inl calm
  · obtain ⟨moving, lacks⟩ := not_or.mp calm
    rw [not_not] at moving
    refine .inr ⟨moving, lacks, ?_⟩
    obtain ⟨r, found⟩ : ∃ r, s.track.find? s.advance.missing = some r := by
      refine Option.ne_none_iff_exists'.mp fun none => lacks fun r mem gone => ?_
      exact List.find?_eq_none.mp none r mem ((missing_iff s r).mpr gone)
    obtain ⟨gone, older, younger, track, first⟩ := List.find?_eq_some_iff_append.mp found
    obtain ⟨x, next, -⟩ := id ((missing_iff s r).mp gone)
    refine ⟨x, encoder_missing z moving track (fun q mem missing => ?_) next ((missing_iff s r).mp gone)⟩
    have other := first q mem
    rw [(missing_iff s q).mpr missing] at other
    cases other

abbrev encoderParts : List Part := stepParts ++ jamParts

theorem jammed_only (s : State) (x : Cell) : Only encoderParts s (s.advance.jam .missing x).retire :=
  (((advance_only s).trans (jam_only _ .missing x)).trans (retire_only _)).within

theorem encoder_only (s : State) (z : Samples) : Only encoderParts s (s.encoder z) := by
  rcases encoder_cases s z with calm | ⟨-, -, x, jams⟩
  · exact (encoder_calm_only z calm).within
  · rw [jams]
    exact jammed_only s x

theorem jammed_frame (s : State) (x : Cell) : JamOutcome s.advance (s.advance.jam .missing x) .missing x :=
  jam_outcome x (Only.refl _ _) (Ledger.refl _ _) rfl

/-- Position, gap counter and stall timer (R1, R14, R41). -/
theorem encoder_counters (s : State) (z : Samples) :
    (s.encoder z).pos = s.pos + 1 ∧ (s.encoder z).gap = s.gap - 1 ∧
      (s.encoder z).stallTimer = { count := 0, dormant := false } := by
  rcases encoder_cases s z with calm | ⟨-, -, x, jams⟩
  · have frame := (stepFrame_calm z calm).frame
    exact ⟨by rw [frame], by rw [frame], by rw [frame]⟩
  · have frame := (jammed_frame s x).frame
    have retired := retire_only (s.advance.jam .missing x)
    rw [jams, retired.pos_eq, retired.gap_eq, retired.timer_eq]
    exact ⟨by rw [frame]; rfl, by rw [frame]; rfl, by rw [frame]⟩

/-! ### Bins -/

theorem plan_unknown {s : State} {t : Tag} (v : Verdict) (unknown : s.findRec t = none) : s.plan t v = s := by
  simp only [State.plan, unknown]

/-- A plan changes no more of a bin than its bound (R125). -/
theorem plan_bin (s : State) (t : Tag) (v : Verdict) (c : Bin) :
    ((s.plan t v).bin c).count = (s.bin c).count ∧ ((s.plan t v).bin c).capacity = (s.bin c).capacity ∧
      ((s.plan t v).bin c).state = (s.bin c).state := by
  cases found : s.findRec t with
  | none =>
    rw [plan_unknown v found]
    exact ⟨rfl, rfl, rfl⟩
  | some r =>
    obtain ⟨b, -, entries, -⟩ := plan_binds v found
    rw [entries]
    split
    next named => rw [named]; exact ⟨rfl, rfl, rfl⟩
    next => exact ⟨rfl, rfl, rfl⟩

theorem abandonIfDue_bin (s : State) (c : Bin) :
    (s.abandonIfDue.bin c).count = (s.bin c).count ∧ (s.abandonIfDue.bin c).capacity = (s.bin c).capacity ∧
      (s.abandonIfDue.bin c).state = (s.bin c).state := by
  unfold State.abandonIfDue
  split
  next d ch _ =>
    split
    · have before := (writeFindings_only s d.tag (closeChannels ch d.latched)).trans (setRead_only _ (.overrun d))
      have entry := plan_bin { s.writeFindings d.tag (closeChannels ch d.latched) with read := .overrun d } d.tag .overlength c
      rw [before.bin_eq c] at entry
      exact entry
    · exact ⟨rfl, rfl, rfl⟩
  next => exact ⟨rfl, rfl, rfl⟩

theorem encoder_bin (s : State) (z : Samples) (c : Bin) :
    ((s.encoder z).bin c).count = (s.bin c).count ∧ ((s.encoder z).bin c).capacity = (s.bin c).capacity ∧
      ((s.encoder z).bin c).state = (s.bin c).state := by
  rcases encoder_cases s z with calm | ⟨-, -, x, jams⟩
  · have rest := ((stepHeads_only (afterSamples s z).abandonIfDue).trans (stepFlip_only _)).trans (stepGates_only _)
    have before := (started s).only.trans (afterSamples_only s z)
    rw [encoder_calm z calm, rest.bin_eq c, ← before.bin_eq c]
    exact abandonIfDue_bin _ c
  · have only := ((advance_only s).trans (jam_only _ .missing x)).trans (retire_only _)
    rw [jams, only.bin_eq c]
    exact ⟨rfl, rfl, rfl⟩

/-! ### The flip gate output (R84) -/

/-- Some record of `l` asks at position `p` for the setting `st`. -/
def Asked (l : List Record) (p : Pos) (st : Setting) : Prop := ∃ r ∈ l, Asks r p st

theorem asked_doneIn {o : Option Tag} {l : List Record} {p : Pos} {st : Setting} (asked : Asked l p st) :
    Asked (doneIn o l) p st := by
  cases o with
  | none => exact asked
  | some t =>
    obtain ⟨r, mem, asks⟩ := asked
    rw [doneIn, updTrack_eq_map]
    refine ⟨_, List.mem_map_of_mem mem, ?_⟩
    split <;> exact asks

theorem stepHeads_asked {s : State} {p : Pos} {st : Setting} (asked : Asked s.track p st) : Asked s.stepHeads.track p st := by
  obtain ⟨-, -, o, p, track, -, -⟩ := stepHeads_congr (s := s) (t := s) ⟨fun _ => rfl, rfl, rfl⟩
  rw [track]
  exact asked_doneIn (asked_doneIn asked)

theorem mem_updTrack {t : Tag} {f : Record → Record} {l : List Record} {r : Record} (mem : r ∈ l) (tag : r.tag = t) :
    f r ∈ updTrack t f l := by
  rw [updTrack_eq_map]
  exact List.mem_map.mpr ⟨r, mem, if_pos tag⟩

/-- What comes behind the facing decision leaves the gate plan in the record and makes it PLANNED. -/
theorem bound_asks {s : State} {r : Record} {t : Tag} {g : GatePlan} {m : Mark} {a : Pos} {lp : Option Nat} {e : SortEntry}
    (mem : r ∈ s.track) (tag : r.tag = t) (gate : r.gate = some g) (holds : within g.win s.pos = true) :
    Asked (((s.setMark t m).bind t a lp e).updRec t fun q => { q with stage := .planned }).track s.pos g.setting := by
  have marked : { r with mark := some m } ∈ (s.setMark t m).track := mem_updTrack mem tag
  have led : { r with mark := some m, bin := some ((s.setMark t m).chooseBin e.primary e.alternate) } ∈
      ((s.setMark t m).bind t a lp e).track := by
    rw [bind_track]
    exact mem_updTrack marked tag
  exact ⟨_, mem_updTrack (f := fun q => { q with stage := .planned }) led tag, rfl, g, gate, rfl, holds⟩

/-- A plan that drives the output does it for a PLANNED record of the track. -/
theorem plan_overlength_drives (s : State) (t : Tag) :
    (s.plan t .overlength).gateOut = s.gateOut ∨
      Asked (s.plan t .overlength).track s.pos (s.plan t .overlength).gateOut := by
  cases found : s.findRec t with
  | none => exact .inl (by rw [plan_unknown _ found])
  | some r =>
    have mem : r ∈ s.track := List.mem_of_find?_eq_some found
    have tag : r.tag = t := by simpa using List.find?_some found
    unfold State.plan
    rw [found]
    dsimp only
    rw [planMark_unwanted (k := classify .overlength _ _) (not_wanted_overlength _ _)]
    generalize planGate _ _ _ _ = g
    generalize classify _ _ _ = k
    generalize State.sortEntry _ _ = e
    obtain ⟨x, faces⟩ : ∃ x, x = s.planFacing t k g.1 g.2 := ⟨_, rfl⟩
    have facing : Only [.lastRes, .track, .live, .flags .super] s x := faces ▸ (planFacing_only s t k g.1 g.2).within
    have faced : { r with cls := some k.cls, orient := k.orient, gate := some g.1, conflict := some g.2 } ∈ x.track := by
      rw [faces, planFacing_track]
      exact mem_updTrack mem tag
    rw [← faces]
    obtain ⟨y, ends⟩ : ∃ y, y = ((x.setMark t .none).bind t r.anchor
        (if Verdict.overlength = .overlength then none else r.lp) e).updRec t fun q => { q with stage := .planned } := ⟨_, rfl⟩
    have only : Only [.track, .bins, .routes, .gates, .stages] x y := by
      rw [ends]
      exact (((setMark_only _ t .none).trans (bind_only _ t _ _ e)).trans (updRec_only _ [.track, .stages] t _)).within
    rw [← ends, driveGate_out, (driveGate_only y g.1).track_eq, only.gateOut_eq, only.pos_eq, facing.gateOut_eq, facing.pos_eq]
    by_cases holds : within g.1.win s.pos = true
    · rw [if_pos holds]
      refine .inr ?_
      rw [← facing.pos_eq] at holds ⊢
      rw [ends]
      exact bound_asks faced tag rfl holds
    · exact .inl (if_neg holds)

theorem abandonIfDue_drives (s : State) :
    s.abandonIfDue.gateOut = s.gateOut ∨ Asked s.abandonIfDue.track s.pos s.abandonIfDue.gateOut := by
  unfold State.abandonIfDue
  split
  next d ch _ =>
    split
    · have before := (writeFindings_only s d.tag (closeChannels ch d.latched)).trans (setRead_only _ (.overrun d))
      have drives := plan_overlength_drives
        { s.writeFindings d.tag (closeChannels ch d.latched) with read := .overrun d } d.tag
      rw [before.gateOut_eq, before.pos_eq] at drives
      exact drives
    · exact .inl rfl
  next => exact .inl rfl

theorem stepFlip_drives {s : State} (moving : Moving s) :
    Asked s.track s.pos s.stepFlip.gateOut ∨
      (∀ st, ¬ Asked s.track s.pos st) ∧ s.stepFlip.gateOut = s.gateOut := by
  unfold State.stepFlip
  rw [if_pos ((moving_iff s).mpr moving)]
  split
  next found =>
    refine .inr ⟨?_, rfl⟩
    rintro st ⟨r, mem, stage, g, gate, -, holds⟩
    refine List.find?_eq_none.mp found r mem ?_
    rw [stage, gate]
    exact holds
  next r found =>
    have mem := List.mem_of_find?_eq_some found
    have asks := List.find?_some found
    simp only [Bool.and_eq_true, beq_iff_eq] at asks
    obtain ⟨stage, holds⟩ := asks
    split
    next gate => rw [gate] at holds; cases holds
    next g gate =>
      rw [gate] at holds
      exact .inl ⟨r, mem, stage, g, gate, rfl, holds⟩

/-- Where the line moves and nothing is missing, the output ends at a setting the track asks for, if it asks for any. -/
theorem encoder_drives {s : State} (z : Samples) (moving : Moving s) (calm : NoneMissing s) :
    Asked (s.encoder z).track (s.pos + 1) (s.encoder z).gateOut ∨
      (∀ st, ¬ Asked (s.encoder z).track (s.pos + 1) st) ∧ (s.encoder z).gateOut = s.gateOut := by
  obtain ⟨v, samples⟩ : ∃ v, v = afterSamples s z := ⟨_, rfl⟩
  have before : Only _ s v := samples ▸ (started s).only.trans (afterSamples_only s z)
  have pos : v.pos = s.pos + 1 := by rw [samples, (afterSamples_only s z).pos_eq, (started s).pos]
  have quiet := abandonIfDue_quiet v
  have heads := stepHeads_only v.abandonIfDue
  have going : Moving v.abandonIfDue.stepHeads := by
    rw [Moving, (quiet.trans heads).line_eq, samples]
    exact (afterSamples_moving s z).mpr moving
  have gates := stepGates_only v.abandonIfDue.stepHeads.stepFlip
  have flips := stepFlip_only v.abandonIfDue.stepHeads
  have here : v.abandonIfDue.stepHeads.pos = s.pos + 1 := (quiet.trans heads).pos_eq.trans pos
  rw [encoder_calm z (.inr calm), ← samples, gates.gateOut_eq, (flips.trans gates).track_eq, ← here]
  refine (stepFlip_drives going).imp_right fun ⟨unasked, same⟩ => ⟨unasked, ?_⟩
  rw [same, heads.gateOut_eq]
  rcases abandonIfDue_drives v with stands | asked
  · rw [stands, before.gateOut_eq]
  · rw [pos, ← here] at asked
    exact absurd (stepHeads_asked asked) (unasked _)

/-! ### The step in every line state -/

/-- The last reservation, kept or retired, where no read is abandoned (R86). -/
theorem encoder_lastRes {s : State} (z : Samples) (kept : Unabandoned s) :
    (s.encoder z).lastRes = retiredAt s.lastRes (s.pos + 1) := by
  rcases encoder_cases s z with calm | ⟨-, -, x, jams⟩
  · exact ((stepFrame_calm z calm).gates kept).1
  · have frame := (jammed_frame s x).frame
    rw [jams, retire_eq, frame]
    rfl

theorem encoder_bound {s : State} (z : Samples) (kept : Unabandoned s) (c : Bin) :
    ((s.encoder z).bin c).bound = (s.bin c).bound := by
  rcases encoder_cases s z with calm | ⟨-, -, x, jams⟩
  · simp only [State.bin, ((stepFrame_calm z calm).track kept).2]
  · have only := ((advance_only s).trans (jam_only _ .missing x)).trans (retire_only _)
    rw [jams, only.bin_eq c]

/-- Outside RUNNING and DRAINING the flip gate output stands (R84). -/
theorem encoder_gateOut_still {s : State} (z : Samples) (still : ¬ Moving s) : (s.encoder z).gateOut = s.gateOut := by
  have stays (t : State) (same : t.line = (afterSamples s z).line) : ¬ Moving t := by
    rw [Moving, same]
    exact mt (afterSamples_moving s z).mp still
  have quiet : (afterSamples s z).abandonIfDue = afterSamples s z :=
    abandonIfDue_of_other fun _ _ _ moving => absurd moving (stays _ rfl)
  have before := (started s).only.trans (afterSamples_only s z)
  have heads := stepHeads_only (afterSamples s z)
  rw [encoder_calm z (.inl still), quiet, stepFlip_still (stays _ heads.line_eq), (stepGates_only _).gateOut_eq,
    heads.gateOut_eq, before.gateOut_eq]

/-- A step outside RUNNING and DRAINING that is no training step leaves baselines and read (R46, R51, R55). -/
theorem encoder_rests {s : State} (z : Samples) (still : ¬ Moving s) (rests : ¬ Trains s) :
    (s.encoder z).baselines = s.baselines ∧ (s.encoder z).read = s.read ∧
      (s.encoder z).training = if s.line = .standby then Vector.replicate 8 0 else s.training := by
  have frame := stepFrame_calm z (.inl still)
  obtain ⟨baselines, -, training⟩ := frame.belt rests
  exact ⟨baselines, frame.reader (.inr still), training⟩

/-- Settles O22: what the frame of the step, or the jam of a missing record, leaves of each part. -/
theorem encoderStepMovesThePosition : Obligations.EncoderStepMovesThePosition := by
  intro s z
  obtain ⟨pos, gap, timer⟩ := encoder_counters s z
  have only := encoder_only s z
  refine ⟨s.encoder z, rfl, pos, gap, timer, only .tags (by simp), only .cells (by simp), only .iOcc (by simp),
    only .rOcc (by simp), only .nextTag (by simp), only .params (by simp), only .sort (by simp), only .store (by simp),
    only .snapshot (by simp), only .throughput (by simp), only .resetCause (by simp), only .resetLevel (by simp),
    only .pending (by simp), only .freeCount (by simp), fun line => ?standby, fun lines => ?still, fun c => ?bins,
    fun calm => ?calm, encoder_lastRes z, encoder_gateOut_still z, fun moving none => ?output,
    fun x => ⟨only (.held x) (by simp), only (.ring x) (by simp), only (.mask x) (by simp), only (.out x) (by simp)⟩⟩
  case standby =>
    have still : ¬ Moving s := by simp [Moving, line]
    obtain ⟨baselines, read, training⟩ := encoder_rests z still fun trains => by
      rcases trains.2 with idle | moving
      · rw [line] at idle
        cases idle
      · exact still moving
    have woken : (s.encoder z).line = if s.line = .standby then .idle else s.line := by
      rw [(stepFrame_calm z (.inl still)).frame]
    rw [if_pos line] at training woken
    exact ⟨woken, fun i => by simp [training], baselines, read⟩
  case still =>
    have still : ¬ Moving s := by rcases lines with line | ⟨line, -⟩ <;> simp [Moving, line]
    have rests : ¬ Trains s := fun ⟨clear, trains⟩ => by
      rcases lines with line | ⟨-, blocked⟩
      · rcases trains with idle | moving
        · rw [line] at idle
          cases idle
        · exact still moving
      · rw [clear] at blocked
        cases blocked
    obtain ⟨baselines, read, training⟩ := encoder_rests z still rests
    have awake : s.line ≠ .standby := by rcases lines with line | ⟨line, -⟩ <;> simp [line]
    exact ⟨baselines, training.trans (if_neg awake), read⟩
  case bins =>
    obtain ⟨count, capacity, state⟩ := encoder_bin s z c
    exact ⟨count, capacity, state, fun kept => encoder_bound z kept c⟩
  case calm =>
    exact ⟨stepFrame_calm z calm,
      completes_of_undone (undone_of_ports (encoder_calm_only z calm) fun c => .inl (encoder_bin s z c).2.2)⟩
  case output =>
    rcases encoder_drives z moving none with asked | ⟨unasked, same⟩
    · obtain ⟨r, mem, asks⟩ := asked
      exact ⟨fun never => absurd asks (never r mem _), fun st _ alone => alone r mem _ asks⟩
    · exact ⟨fun _ => same, fun st asked _ => absurd asked (unasked st)⟩

end Sys2Proof.Proofs
end

section
/-! PROOFS. The read above MaxPiece, abandoned and planned OVERLENGTH (R68, R83). -/

-- The proofs are elaborated one after another: the check gives each thread a large stack within a fixed memory.
set_option Elab.async false

namespace Sys2Proof.Proofs

open Sys2Proof.Machine
open Sys2Proof.Claims


/-! ### An OVERLENGTH plan (R83) -/

/-- A letter of no length is planned STRAIGHT with an open window, behind a last reservation it conflicts with or not. -/
theorem gatePlan_overlength (s : State) (last : Option FlipReservation) (a : Pos) :
    (gatePlan s last a none none).1.setting = .straight ∧ (gatePlan s last a none none).1.win.toPos = none := by
  cases last with
  | none => exact ⟨rfl, rfl⟩
  | some l =>
    rw [gatePlan, planGate, Option.isNone_none, if_pos rfl]
    split
    · refine ⟨rfl, ?_⟩
      unfold afterWindow
      split <;> rfl
    · exact ⟨rfl, rfl⟩

/-- What the abandonment of the read of record `r` makes of everything but the track. -/
structure AbandonedParts (s u : State) (d : Reading) (r : Record) (closed : Vector Channel 8) (plan : GatePlan × Bool)
    (b : Bin) : Prop where
  rest   : AbandonedRest s u d r closed plan
  bound  : BoundTo s u (routing s .overlength plan.2) b
  gates  : GatesBound s u b r none
  output : u.gateOut = if within plan.1.win s.pos = true then plan.1.setting else s.gateOut
  told   : Ledger [.floodedPieces, .cls .overlength, .flipped, .turnConflicts, .uncancelledConflict, .uncancelledOffline] 0 s u
  others : ∀ v, v ∉ [Tally.floodedPieces, .cls .overlength, .turnConflicts] → u.tally v = s.tally v

theorem abandonRead_parts {s : State} {older younger : List Record} {r : Record} {d : Reading} (ch : Vector Channel 8)
    (apart : Apart r.tag older younger) (track : s.track = older ++ r :: younger) (tag : d.tag = r.tag) :
    let closed := closeChannels ch d.latched
    let plan := gatePlan s s.lastRes r.anchor none none
    ∃ b, (s.abandonRead d ch).track = older ++ abandoned r closed plan b :: younger ∧
      AbandonedParts s (s.abandonRead d ch) d r closed plan b := by
  intro closed plan
  obtain ⟨p, found⟩ : ∃ p, p = ({ s.writeFindings d.tag closed with read := .overrun d } : State) := ⟨_, rfl⟩
  obtain ⟨first, toldFirst, written, flooded⟩ := writeFindings_parts s d.tag closed
  have second := setRead_only (s.writeFindings d.tag closed) (.overrun d)
  rw [← found] at second
  have only : Only [.cells, .rOcc, .track, .read, .live, .flags .super] s p := (first.trans second).within
  have ledger : Ledger [.floodedPieces] 0 s p := (toldFirst.trans second.ledger).within
  have here : p.track = older ++ { r with findings := some (findingsOf closed) } :: younger := by
    rw [second.track_eq, written, tag]
    exact updRec_at apart track _ rfl
  obtain ⟨m, b, tracked, planned, kept⟩ :=
    plan_parts (v := .overlength) (lp := none) only ledger apart here rfl rfl rfl (if_pos rfl) rfl
  have ends : s.abandonRead d ch = p.plan r.tag .overlength := by
    rw [found, ← tag]
    rfl
  obtain ⟨unmarked, alike⟩ := planned.unwanted (not_wanted_overlength _ _)
  obtain ⟨straight, opened⟩ := gatePlan_overlength s s.lastRes r.anchor
  rw [unmarked] at tracked
  rw [ends]
  refine ⟨b, tracked, ?_, planned.bound, planned.gates, planned.output, planned.told, fun v other => ?_⟩
  · refine ⟨?_, planned.last, ⟨straight, opened⟩, ?_, planned.counted, planned.conflicts⟩
    · rw [(plan_overlength_only p r.tag).read_eq, found]
    · rw [kept, second.ledger.others _ (by simp), flooded]
  · by_cases flip : v = .flipped
    · rw [flip, planned.flipped, if_neg fun both => ?_, gained_zero]
      cases straight.symm.trans both.2
    by_cases conflict : v = .uncancelledConflict
    · rw [conflict]
      exact alike.counts.1
    by_cases offline : v = .uncancelledOffline
    · rw [offline]
      exact alike.counts.2
    · refine planned.told.others v ?_
      simp only [List.mem_cons, List.not_mem_nil, or_false, not_or] at other ⊢
      exact ⟨other.1, other.2.1, flip, other.2.2, conflict, offline⟩

/-! ### What an encoder step adds to the abandonment -/

/-- Behind the count that takes a read above MaxPiece its samples are not judged (R68). -/
theorem readSample_long {s : State} {d : Reading} {ch : Vector Channel 8} (z : Samples)
    (long : d.latched.maxPiece < d.count + 1) :
    (s.readSample d ch z).read = .sampling { d with count := d.count + 1 } ch := by
  unfold State.readSample
  dsimp only
  rw [if_pos long]

/-- A mark that ends is another record's: it stands beside the record that is rewritten. -/
theorem doneIn_updTrack {o : Option Tag} {t : Tag} (other : o ≠ some t) {q : Record} (tag : q.tag = t) (l : List Record) :
    doneIn o (updTrack t (fun _ => q) l) = updTrack t (fun _ => q) (doneIn o l) := by
  cases o with
  | none => rfl
  | some g =>
    have apart : ¬ t = g := fun same => other (congrArg some same.symm)
    simp only [doneIn, updTrack_eq_map, List.map_map]
    refine List.map_congr_left fun r _ => ?_
    simp only [Function.comp]
    by_cases own : r.tag = t
    · rw [if_pos own, tag, if_neg apart, own, if_neg apart, if_pos own]
    · rw [if_neg own]
      by_cases done : r.tag = g
      · rw [if_pos done, if_neg own]
      · rw [if_neg done, if_neg own]

/-- Heads that end no mark of the rewritten record leave it as it is rewritten, and the other records to themselves. -/
theorem stepHeads_rewritten {s w : State} {t : Tag} {q : Record} (meets : SameBeat s w)
    (track : w.track = updTrack t (fun _ => q) s.track) (tag : q.tag = t)
    (unmarked : ∀ h a, (s.head h).active = some a → ¬ MadeBy a t) :
    w.stepHeads.track = updTrack t (fun _ => q) s.stepHeads.track := by
  obtain ⟨-, -, o, p, first, second, made⟩ := stepHeads_congr meets
  have foreign (done : o = some t ∨ p = some t) : False := by
    obtain ⟨h, a, active, own⟩ := made t done
    exact unmarked h a active own
  rw [second, first, track, doneIn_updTrack (fun own => foreign (.inl own)) tag,
    doneIn_updTrack (fun own => foreign (.inr own)) tag]

/-- The step that closes an up-to-date gate's passed windows does not look at its output. -/
theorem gateStepped_upToDate (g : TrayGate) (p q : Pos) : gateStepped (upToDate g p) q = gateStepped g q := rfl

theorem boundTo_base {s v t : State} {e : SortEntry} {b : Bin} (bound : BoundTo v t e b) (bins : v.bins = s.bins) :
    BoundTo s t e b := by
  have entry (c : Bin) : v.bin c = s.bin c := by simp only [State.bin, bins]
  obtain ⟨led, raised, others, kept⟩ := bound
  simp only [LedTo, entry] at led
  simp only [entry] at raised others kept
  exact ⟨led, raised, others, kept⟩

theorem abandonedRest_congr {s v w u : State} {d : Reading} {r : Record} {closed : Vector Channel 8} {plan : GatePlan × Bool}
    (rest : AbandonedRest v w d r closed plan) (read : u.read = w.read) (lastRes : u.lastRes = w.lastRes)
    (floods : u.tally .floodedPieces = w.tally .floodedPieces ∧ v.tally .floodedPieces = s.tally .floodedPieces)
    (classes : u.tally (.cls .overlength) = w.tally (.cls .overlength) ∧ v.tally (.cls .overlength) = s.tally (.cls .overlength))
    (turns : u.tally .turnConflicts = w.tally .turnConflicts ∧ v.tally .turnConflicts = s.tally .turnConflicts) :
    AbandonedRest s u d r closed plan := by
  obtain ⟨overrun, last, straight, flooded, counted, conflicts⟩ := rest
  refine ⟨read.trans overrun, lastRes.trans last, straight, ?_, ?_, ?_⟩
  · rw [floods.1, flooded, raised_congr floods.2, floods.2]
  · rw [classes.1, counted, raised_congr classes.2]
  · rw [turns.1, conflicts, gained_congr turns.2]

/-- The step that takes a read above MaxPiece is its abandonment, at the new position and with the last reservation retired
there; the mark a head ends is another record's. -/
theorem encoder_abandons {s : State} {older younger : List Record} {r : Record} {d : Reading} {ch : Vector Channel 8}
    (z : Samples) (moving : Moving s) (blocked : s.level .r = .blocked) (apart : Apart r.tag older younger)
    (track : s.track = older ++ r :: younger) (reading : s.read = .sampling d ch) (tag : d.tag = r.tag)
    (calm : NoneMissing s) (long : d.latched.maxPiece ≤ d.count)
    (unmarked : ∀ h a, (s.head h).active = some a → ¬ MadeBy a r.tag) :
    let closed := closeChannels ch d.latched
    let plan := gatePlan s (retiredAt s.lastRes (s.pos + 1)) r.anchor none none
    ∃ b, (s.encoder z).track = ((headsStepped s).track.map fun q => if q.tag = r.tag then abandoned r closed plan b else q) ∧
      AbandonedRest s (s.encoder z) { d with count := d.count + 1 } r closed plan ∧
      BoundTo s (s.encoder z) (routing s .overlength plan.2) b ∧
      (∀ j : Fin 6, (s.encoder z).gates[j] = gateStepped
        (if b = .tray j then
          { s.gates[j] with
            windows := s.gates[j].windows ++ [{ holder := r.tag, win := trayWindow s.params.geo r.anchor j none }] }
        else s.gates[j]) (s.pos + 1)) ∧
      ∀ v, v ∉ [Tally.floodedPieces, .cls .overlength, .turnConflicts, .cancelled, .feedMisses] →
        (s.encoder z).tally v = s.tally v := by
  intro closed plan
  obtain ⟨v, samples⟩ : ∃ v, v = afterSamples s z := ⟨_, rfl⟩
  obtain ⟨w, ends⟩ : ∃ w, w = v.abandonRead { d with count := d.count + 1 } ch := ⟨_, rfl⟩
  obtain ⟨u, steps⟩ : ∃ u, u = s.encoder z := ⟨_, rfl⟩
  have start := started s
  have sampled := afterSamples_only s z
  rw [← samples] at sampled
  have before := start.only.trans sampled
  have told : Ledger [.feedMisses] 0 s v := (start.told.trans sampled.ledger).within
  have read : v.read = .sampling { d with count := d.count + 1 } ch := by
    rw [samples, afterSamples_sampling z moving blocked reading, readSample_long z (Nat.lt_succ_of_le long)]
  have abandons : v.abandonIfDue = w := by
    rw [ends]
    refine abandonIfDue_of_due read ?_ ?_ (Nat.lt_succ_of_le long)
    · rw [samples]
      exact (afterSamples_moving s z).mpr moving
    · rw [samples, afterSamples_level]
      exact blocked
  have planOf : gatePlan v v.lastRes r.anchor none none = plan := by
    rw [gatePlan, before.params_eq, sampled.lastRes_eq, start.lastRes]
    rfl
  obtain ⟨b, tracked, rest, bound, gated, -, -, others⟩ := abandonRead_parts (d := { d with count := d.count + 1 }) ch apart
    (before.track_eq.trans track) tag
  rw [← ends] at tracked rest bound gated others
  rw [planOf] at tracked rest bound
  have heads := stepHeads_only w
  have flip := stepFlip_only w.stepHeads
  have gates := stepGates_only w.stepHeads.stepFlip
  have behind := (heads.trans flip).trans gates
  have toldBehind : Ledger [.cancelled] 0 w u := by
    rw [steps, encoder_calm z (.inr calm), ← samples, abandons]
    exact (((stepHeads_ledger w).trans flip.ledger).trans gates.ledger).within
  have shape : s.encoder z = w.stepHeads.stepFlip.stepGates := by rw [encoder_calm z (.inr calm), ← samples, abandons]
  rw [← shape, ← steps] at behind gates
  rw [← steps]
  have counts (c : Tally) (mark : c ≠ .cancelled) (miss : c ≠ .feedMisses) : u.tally c = w.tally c ∧ v.tally c = s.tally c :=
    ⟨toldBehind.others c (by simpa using mark), told.others c (by simpa using miss)⟩
  refine ⟨b, ?_, ?_, ?_, fun j => ?_, fun c other => ?_⟩
  · have meets := sameBeat_afterSamples z s
    rw [← samples, abandons] at meets
    have rewritten : w.track = updTrack r.tag (fun _ => abandoned r closed plan b) (stepped s).track := by
      rw [tracked, show (stepped s).track = older ++ r :: younger from track, updTrack_at apart _ rfl]
    rw [(flip.trans gates).track_eq, stepHeads_rewritten meets rewritten rfl unmarked, updTrack_eq_map]
    rfl
  · exact abandonedRest_congr rest behind.read_eq behind.lastRes_eq (counts _ (by simp) (by simp))
      (counts _ (by simp) (by simp)) (counts _ (by simp) (by simp))
  · have sorted : v.sort = s.sort := before .sort (by simp)
    rw [← routing_congr sorted]
    exact boundTo_base (boundTo_congr bound behind.bins_eq) before.bins_eq
  · have reach := heads.trans flip
    have here : w.pos = s.pos + 1 := by
      rw [ends, (abandonRead_quiet v _ ch).pos_eq, sampled.pos_eq, start.pos]
    rw [steps, shape, stepGates_gates, reach.gates_eq, reach.pos_eq, here, gated j, before.gates_eq, before.params_eq]
    by_cases named : b = .tray j
    · rw [if_pos named, if_pos named, gateStepped_upToDate]
    · rw [if_neg named, if_neg named]
  · simp only [List.mem_cons, List.not_mem_nil, or_false, not_or] at other
    obtain ⟨flooded, cls, conflict, mark, miss⟩ := other
    obtain ⟨same, base⟩ := counts c mark miss
    rw [same, others c (by simp [flooded, cls, conflict]), base]

/-- Settles O36: an abandonment is a plan of an OVERLENGTH record; within the encoder step it stands between the samples and
the heads, which meet what they would meet without it. -/
theorem abandonedReadIsPlannedOverlength : Obligations.AbandonedReadIsPlannedOverlength := by
  intro s older younger r d ch moving blocked sound track reading tag closed
  have apart : Apart r.tag older younger := apart_of_distinct (track ▸ sound.distinct)
  have closes : closeChannels ch d.latched = closed := closeChannels_eq ch d.latched
  constructor
  · intro z none long unmarked plan e
    obtain ⟨b, tracked, rest, bound, gates, others⟩ :=
      encoder_abandons z moving blocked apart track reading tag none long unmarked
    rw [closes] at tracked rest
    exact ⟨s.encoder z, b, rfl, stepFrame_calm z (.inr none), tracked, rest, bound, gates, others⟩
  · intro long plan e
    obtain ⟨u, ends⟩ : ∃ u, u = s.abandonRead d ch := ⟨_, rfl⟩
    obtain ⟨b, tracked, parts⟩ := abandonRead_parts ch apart track tag
    have only := abandonRead_quiet s d ch
    rw [closes, ← ends] at tracked parts
    rw [← ends] at only
    have flags : u.portS.flags = s.portS.flags ||| saturation s u := parts.told.quiet_flags
    have event : s.abandonIfDue = u := (abandonIfDue_of_due reading moving blocked long).trans ends.symm
    refine ⟨u, b, congrArg (fun t : State => Host.Outcome.next t.settle) event, ?_, parts.rest, parts.bound, parts.gates,
      parts.others, completes_of_undone (undone_of_ports only fun c => .inl (parts.bound.kept c).2.2)⟩
    have output : u.gateOut = if within plan.1.win s.pos = true then plan.1.setting else s.gateOut := parts.output
    refine (eq_onBelt only).trans ?_
    simp only [onBelt, only.pos_eq, only.gap_eq, only.timer_eq, only.line_eq, only.release_eq, only.training_eq,
      only.baselines_eq, only.iOcc_eq, only.rOcc_eq, only.feedFlags_eq, only.printFlags_eq, only.headHigh_eq,
      only.headLow_eq, only.store_eq, tracked, flags, output]
    rfl

end Sys2Proof.Proofs
end
